-- ==== Sys2Proof/Word.lean ====
section
/-! DEFINITION. The byte, the one unit of every space of the engine (R8, R40). -/

namespace Sys2Proof

/-- A byte: 8 bits, unsigned (R8). -/
abbrev Byte := BitVec 8

/-- `Σ buf`: the sum of all elements as an unbounded natural number (R8, R90). -/
def byteSum : List Byte → Nat
  | [] => 0
  | b :: bs => b.toNat + byteSum bs

end Sys2Proof
end

