-- ==== Sys2Proof/Syntax.lean ====
section
/-! DEFINITION. The eight frame controls, the error kinds, the link address and the sixteen instructions: the eight wire
messages and the eight host commands of spec/opcode_table.json. -/

namespace Sys2Proof

/-- The message-type tag of a frame (R62). Its byte values are `FrameControl.bits`. -/
inductive FrameControl where
  | nop | reset | setConfig | pbSdrRequest | pbSdrReply | pbSdnRequest | ack | nack
  deriving DecidableEq, Repr, Inhabited

/-- `linkAddress = (busId, deviceId)`, two opaque values (R12, D23; naturals: log 26). -/
structure Link where
  busId : Nat
  deviceId : Nat
  deriving DecidableEq, Repr, Inhabited

/-- The error kinds and the two REJECTED reasons (R180). -/
inductive ErrorKind where
  | transportOpenError | transportConfigError | frameTooSmall | checksumMismatch | unknownFrameControl
  | payloadLengthMismatch | invalidBaudRate | timeout | notOpen | alreadyOpen
  deriving DecidableEq, Repr, Inhabited

/-- A frame as the codec's value: a frame control and its payload (R27). -/
structure Frame where
  fc : FrameControl
  payload : List Byte
  deriving DecidableEq, Repr

/-- The rows of the opcode table (R74).

The FRAME rows carry the other fields of the frame format R60 as received: the length byte, the checksum
byte and the payload bytes. `nop` carries the bytes after byte 0, which are never examined (R99).
The HOSTCMD rows carry the operands of R70. -/
inductive Instr where
  -- FRAME rows: what the engine finds in its receive buffer (R111 to R118)
  | nop (rest : List Byte)
  | reset (len checksum : Byte) (payload : List Byte)
  | setConfig (len checksum : Byte) (payload : List Byte)
  | pbSdrRequest (len checksum : Byte) (payload : List Byte)
  | pbSdrReply (len checksum : Byte) (payload : List Byte)
  | pbSdnRequest (len checksum : Byte) (payload : List Byte)
  | ack (len checksum : Byte) (payload : List Byte)
  | nack (len checksum : Byte) (payload : List Byte)
  -- HOSTCMD rows: what the host presents (R130, R142, R150, R156, R157, R158, R160, R161)
  | openLink (link : Link)
  | close
  | pollReply
  | sendMessage (fc : FrameControl) (payload : List Byte) (sync : Bool)
  | sendReset
  | setPhyConfig (baud : BitVec 32)
  | sendTelegramSdn (telegram : List Byte) (sync : Bool)
  | sendTelegramSdr (telegram : List Byte) (sync : Bool)
  deriving DecidableEq, Repr

end Sys2Proof
end

