-- ==== Sys2Proof/Config.lean ====
section
/-! DEFINITION. The parameters of R6 and R7, and the free values: constants without a body, so that no
proof can see a value the spec leaves open. -/

namespace Sys2Proof

/-- `PAYLOAD_MAX` (R6). -/
abbrev payloadMax : Nat := 255

/-- `HEADER_LEN` (R6). -/
abbrev headerLen : Nat := 3

/-- `FRAME_MAX` (R6). -/
abbrev frameMax : Nat := 258

/-- `XPORT_WORD_SIZE` (R6). -/
abbrev xportWordSize : Nat := 8

/-- The edge the ready signal latches: `SIG_EDGE` is RISING and nothing else (R6). -/
inductive Edge where
  | rising
  deriving DecidableEq, Repr

/-- The open and nominal parameters of R7 (durations in milliseconds, opaque values as naturals: log 26).
They stand in State and no step writes them, so a statement about every state is one about every choice
of the parameters (log 6). -/
structure Params where
  /-- `T_RESET_HOLD`. -/
  resetHold : Nat
  /-- `T_BOOT_WAIT`. -/
  bootWait : Nat
  /-- `XPORT_MAX_CLOCK_HZ`. -/
  maxClockHz : Nat
  /-- `XPORT_CPOL`. -/
  cpol : Nat
  /-- `XPORT_CPHA`. -/
  cpha : Nat
  /-- `XPORT_CS_POL`. -/
  csPol : Nat
  /-- `XPORT_BIT_ORDER`. -/
  bitOrder : Nat
  /-- `SYNC_TIMEOUT_POLLS`: `none`, or the number T of empty polls (R165). -/
  syncTimeoutPolls : Option Nat
  /-- `T_POLL_GAP`. -/
  pollGap : Nat
  /-- `RST_LINE_ID`. -/
  rstLineId : Nat
  /-- `SIG_LINE_ID`. -/
  sigLineId : Nat
  deriving DecidableEq, Repr

/-- `SYNC_TIMEOUT_POLLS` is `none` or a natural T >= 1 (R7). -/
def Params.wf (p : Params) : Bool :=
  match p.syncTimeoutPolls with
  | none => true
  | some t => decide (1 ≤ t)

/-- Free bits (log 5): a register of width `w` that R28 leaves unspecified holds `freeBits w n` for some n. -/
opaque Config.freeBits (w n : Nat) : BitVec w

/-- A free byte (log 3, log 5): the byte a read returns when the companion's bytes are unknown (R43, U11). -/
opaque Config.freeByte (n : Nat) : Byte

/-- A free outcome (log 4, log 5): whether XportOpen or XportConfigure succeeds (R41, U12). -/
opaque Config.freeBool (n : Nat) : Bool

/-- A free link address (log 5): `cmd_link` after power-on (R28). -/
opaque Config.freeLink (n : Nat) : Link

/-- A free error kind (log 5): `res_err` after power-on (R28). -/
opaque Config.freeErrorKind (n : Nat) : ErrorKind

/-- `XPORT_CPOL`, which has no value in the spec (D18, U13). -/
opaque Config.cpol : Nat

/-- `XPORT_CPHA`, which has no value in the spec (D18, U13). -/
opaque Config.cpha : Nat

/-- `XPORT_CS_POL`, which has no value in the spec (D18, U13). -/
opaque Config.csPol : Nat

/-- `XPORT_BIT_ORDER`, which has no value in the spec (D18, U13). -/
opaque Config.bitOrder : Nat

/-- `RST_LINE_ID`, which has no value in the spec (D18, U13). -/
opaque Config.rstLineId : Nat

/-- `SIG_LINE_ID`, which has no value in the spec (D18, U13). -/
opaque Config.sigLineId : Nat

/-- The nominal parameters of R7; those without a nominal value are opaque. -/
def Config.nominal : Params where
  resetHold := 50
  bootWait := 200
  maxClockHz := 200000
  cpol := Config.cpol
  cpha := Config.cpha
  csPol := Config.csPol
  bitOrder := Config.bitOrder
  syncTimeoutPolls := none
  pollGap := 0
  rstLineId := Config.rstLineId
  sigLineId := Config.sigLineId

/-- `k` free bytes, the draws `n` to `n + k - 1`. -/
def Config.freeBytes (n : Nat) : Nat → List Byte
  | 0 => []
  | k + 1 => Config.freeByte n :: Config.freeBytes (n + 1) k

end Sys2Proof
end

