-- ==== Sys2Proof/Machine/Codec.lean ====
section
/-! DEFINITION. The frame-control map and the baud-rate table (30_encoding.md) and the frame codec FCS,
ENCODE, DECODE (40_frame_codec.md): pure functions, no engine state enters (R105). -/

namespace Sys2Proof

/-- The 3-bit ordinal of a frame control (R62; D2, log 21). -/
def FrameControl.bits : FrameControl → BitVec 3
  | .nop => 0
  | .reset => 1
  | .setConfig => 2
  | .pbSdrRequest => 3
  | .pbSdrReply => 4
  | .pbSdnRequest => 5
  | .ack => 6
  | .nack => 7

/-- `ord(fc)`, byte 0 of a frame: the ordinal zero-extended to 8 bits (R65). -/
def FrameControl.ordinal (fc : FrameControl) : Byte := fc.bits.setWidth 8

/-- The frame control of a 3-bit ordinal; every value is in use (R62). -/
def FrameControl.ofBits (b : BitVec 3) : FrameControl :=
  match b.toFin with
  | 0 => .nop
  | 1 => .reset
  | 2 => .setConfig
  | 3 => .pbSdrRequest
  | 4 => .pbSdrReply
  | 5 => .pbSdnRequest
  | 6 => .ack
  | 7 => .nack

/-- The frame type byte 0 selects: `none` for the illegal values 8..255 (R62, R67). -/
def FrameControl.ofByte (b : Byte) : Option FrameControl :=
  if b.toNat ≤ 7 then some (.ofBits (b.setWidth 3)) else none

/-- FCS (R90), the source's formula on natural numbers; no value below 3 bytes (R92). -/
def fcs (buf : List Byte) : Option Byte :=
  match buf with
  | _ :: _ :: b2 :: _ =>
    let t := byteSum buf - b2.toNat
    some (BitVec.ofNat 8 ((t ^^^ 0xFF) &&& 0xFF))
  | _ => none

/-- ENCODE (R94); `none` for a payload over 255 bytes, which has no encoding (R96). -/
def encodeFrame (f : Frame) : Option (List Byte) :=
  if f.payload.length ≤ payloadMax then
    let len := BitVec.ofNat 8 f.payload.length
    match fcs (f.fc.ordinal :: len :: 0#8 :: f.payload) with
    | some checksum => some (f.fc.ordinal :: len :: checksum :: f.payload)
    | none => none
  else none

/-- The four errors of DECODE (R97, R180). -/
inductive DecodeError where
  | frameTooSmall
  | checksumMismatch
  | unknownFrameControl (value : Byte)
  | payloadLengthMismatch
  deriving DecidableEq, Repr

/-- DECODE (R97), its tests in the normative order of R98: the first that fails decides. -/
def decodeBuffer (buf : List Byte) : Except DecodeError Frame :=
  match buf with
  | [] => .error .frameTooSmall
  | b0 :: rest =>
    if b0 = 0#8 then .ok { fc := .nop, payload := [] }
    else
      match rest with
      | b1 :: b2 :: payload =>
        if fcs buf ≠ some b2 then .error .checksumMismatch
        else
          match FrameControl.ofByte b0 with
          | none => .error (.unknownFrameControl b0)
          | some fc =>
            if payload.length ≠ b1.toNat then .error .payloadLengthMismatch
            else .ok { fc := fc, payload := payload }
      | _ => .error .frameTooSmall

/-- The code of an error kind (R180; D14, log 21); no rule depends on the numbers. -/
def ErrorKind.code : ErrorKind → Nat
  | .transportOpenError => 1
  | .transportConfigError => 2
  | .frameTooSmall => 3
  | .checksumMismatch => 4
  | .unknownFrameControl => 5
  | .payloadLengthMismatch => 6
  | .invalidBaudRate => 7
  | .timeout => 8
  | .notOpen => 9
  | .alreadyOpen => 10

/-- The error kind of a decode error (R180). -/
def DecodeError.kind : DecodeError → ErrorKind
  | .frameTooSmall => .frameTooSmall
  | .checksumMismatch => .checksumMismatch
  | .unknownFrameControl _ => .unknownFrameControl
  | .payloadLengthMismatch => .payloadLengthMismatch

/-- What `res_info` records of a decode error: the offending byte 0, otherwise 0 (R154, R180). -/
def DecodeError.info : DecodeError → Byte
  | .unknownFrameControl value => value
  | _ => 0

/-- The ROM `CFG`: the ten baud rates and their identifiers (R68; D3, log 21). -/
def baudTable : List (BitVec 32 × Byte) :=
  [(9600, 0), (19200, 1), (45450, 2), (93750, 3), (187500, 4), (500000, 5),
   (1500000, 6), (3000000, 7), (6000000, 8), (12000000, 9)]

/-- `BaudLookup(rate)`: the identifier of the row whose rate is exactly `rate` (R68, R69). -/
def baudLookup (rate : BitVec 32) : Option Byte :=
  (baudTable.find? fun row => row.1 == rate).map (·.2)

/-- The table read right to left (R68: the mapping is bidirectional); no engine step uses it. -/
def baudRate (ident : Byte) : Option (BitVec 32) :=
  (baudTable.find? fun row => row.2 == ident).map (·.1)

end Sys2Proof
end

