-- ==== Sys2Proof/WellFormed.lean ====
section
/-! DEFINITION. Which instructions are well formed: frames that keep the format R60, commands that keep the
payload contract R96. -/

namespace Sys2Proof

/-- A frame keeps R60: the length byte counts the payload and the checksum byte is the FCS. -/
def frameWellFormed (fc : FrameControl) (len checksum : Byte) (payload : List Byte) : Bool :=
  decide (payload.length = len.toNat) &&
    decide (fcs (fc.ordinal :: len :: checksum :: payload) = some checksum)

/-- The payload contract: at most 255 bytes (R6, R27, R96). -/
def payloadWellFormed (payload : List Byte) : Bool := decide (payload.length ≤ payloadMax)

/-- Well-formedness of an instruction. A NOP may be bare or carry any bytes (R66, R99), up to the longest frame. -/
def Instr.wellFormed : Instr → Bool
  | .nop rest => decide (rest.length < frameMax)
  | .reset len checksum payload => frameWellFormed .reset len checksum payload
  | .setConfig len checksum payload => frameWellFormed .setConfig len checksum payload
  | .pbSdrRequest len checksum payload => frameWellFormed .pbSdrRequest len checksum payload
  | .pbSdrReply len checksum payload => frameWellFormed .pbSdrReply len checksum payload
  | .pbSdnRequest len checksum payload => frameWellFormed .pbSdnRequest len checksum payload
  | .ack len checksum payload => frameWellFormed .ack len checksum payload
  | .nack len checksum payload => frameWellFormed .nack len checksum payload
  | .openLink _ => true
  | .close => true
  | .pollReply => true
  | .sendMessage _ payload _ => payloadWellFormed payload
  | .sendReset => true
  | .setPhyConfig _ => true
  | .sendTelegramSdn telegram _ => payloadWellFormed telegram
  | .sendTelegramSdr telegram _ => payloadWellFormed telegram

end Sys2Proof
end

