-- ==== Sys2Proof/Decode.lean ====
section
/-! DEFINITION. Decoding, total and rejecting by name: a received buffer to a wire message (R62, R67, R74)
and a presented command to a host command (R70); then the encoder. -/

namespace Sys2Proof

/-- Which host command (R12 `cmd_op`, R70). -/
inductive CmdOp where
  | openLink | close | pollReply | sendMessage | sendReset | setPhyConfig | sendTelegramSdn | sendTelegramSdr
  deriving DecidableEq, Repr, Inhabited

/-- The command code of R70 (D4, log 21). -/
def CmdOp.code : CmdOp → BitVec 3
  | .openLink => 0
  | .close => 1
  | .pollReply => 2
  | .sendMessage => 3
  | .sendReset => 4
  | .setPhyConfig => 5
  | .sendTelegramSdn => 6
  | .sendTelegramSdr => 7

/-- The command of a code; all eight codes are in use (R73). -/
def CmdOp.ofCode (c : BitVec 3) : CmdOp :=
  match c.toFin with
  | 0 => .openLink
  | 1 => .close
  | 2 => .pollReply
  | 3 => .sendMessage
  | 4 => .sendReset
  | 5 => .setPhyConfig
  | 6 => .sendTelegramSdn
  | 7 => .sendTelegramSdr

/-- A command as the host presents it: the 3-bit code and the host's copy of every operand (R12, R13, R70;
the form is the model's, log 14). -/
structure CommandPort where
  code : BitVec 3
  fc : BitVec 3
  payload : List Byte
  sync : Bool
  baud : BitVec 32
  link : Link
  deriving DecidableEq, Repr

/-- Why bits are no instruction: an error of DECODE (R97), or a payload no host may present (R73, U2). -/
inductive Reject where
  | frame (e : DecodeError)
  | payloadTooLong
  deriving DecidableEq, Repr

/-- An instruction in its encoded form: the bytes of a frame, or a command at the host's port. -/
inductive Encoded where
  | wire (bytes : List Byte)
  | host (port : CommandPort)
  deriving DecidableEq, Repr

/-- The wire message with the given header fields and payload (R60, R62). -/
def wireMessage (fc : FrameControl) (len checksum : Byte) (payload : List Byte) : Instr :=
  match fc with
  | .nop => .nop (len :: checksum :: payload)
  | .reset => .reset len checksum payload
  | .setConfig => .setConfig len checksum payload
  | .pbSdrRequest => .pbSdrRequest len checksum payload
  | .pbSdrReply => .pbSdrReply len checksum payload
  | .pbSdnRequest => .pbSdnRequest len checksum payload
  | .ack => .ack len checksum payload
  | .nack => .nack len checksum payload

/-- The wire message in a buffer: byte 0 is looked up in the FRAME rows (R74). The checksum and the length of
a known type are left to its meaning (log 25); a buffer that is no message is rejected with the error DECODE
gives it, in DECODE's order (R97, R98, R103). -/
def decodeMessage (buf : List Byte) : Except DecodeError Instr :=
  match buf with
  | [] => .error .frameTooSmall
  | b0 :: rest =>
    if b0 = 0#8 then .ok (.nop rest)
    else
      match rest with
      | len :: checksum :: payload =>
        match FrameControl.ofByte b0 with
        | some fc => .ok (wireMessage fc len checksum payload)
        | none =>
          if fcs buf = some checksum then .error (.unknownFrameControl b0)
          else .error .checksumMismatch
      | _ => .error .frameTooSmall

/-- A payload operand, rejected above 255 bytes (R73, R96, U2). -/
def checkPayload (payload : List Byte) (i : Instr) : Except Reject Instr :=
  if payload.length ≤ payloadMax then .ok i else .error .payloadTooLong

/-- The host command at the port: the code selects it and it takes the operands R70 gives it. -/
def decodeCommand (p : CommandPort) : Except Reject Instr :=
  match CmdOp.ofCode p.code with
  | .openLink => .ok (.openLink p.link)
  | .close => .ok .close
  | .pollReply => .ok .pollReply
  | .sendMessage => checkPayload p.payload (.sendMessage (.ofBits p.fc) p.payload p.sync)
  | .sendReset => .ok .sendReset
  | .setPhyConfig => .ok (.setPhyConfig p.baud)
  | .sendTelegramSdn => checkPayload p.payload (.sendTelegramSdn p.payload p.sync)
  | .sendTelegramSdr => checkPayload p.payload (.sendTelegramSdr p.payload p.sync)

/-- The decoder over both forms. -/
def decode : Encoded → Except Reject Instr
  | .wire bytes =>
    match decodeMessage bytes with
    | .ok i => .ok i
    | .error e => .error (.frame e)
  | .host p => decodeCommand p

/-- A port that carries a code and no operand: every operand bit is 0. -/
def CommandPort.bare (c : BitVec 3) : CommandPort where
  code := c
  fc := 0
  payload := []
  sync := false
  baud := 0
  link := { busId := 0, deviceId := 0 }

/-- The encoder: a wire message's bytes in offset order (R60), a host command at the port (R70). -/
def encode : Instr → Encoded
  | .nop rest => .wire (FrameControl.ordinal .nop :: rest)
  | .reset len checksum payload => .wire (FrameControl.ordinal .reset :: len :: checksum :: payload)
  | .setConfig len checksum payload => .wire (FrameControl.ordinal .setConfig :: len :: checksum :: payload)
  | .pbSdrRequest len checksum payload => .wire (FrameControl.ordinal .pbSdrRequest :: len :: checksum :: payload)
  | .pbSdrReply len checksum payload => .wire (FrameControl.ordinal .pbSdrReply :: len :: checksum :: payload)
  | .pbSdnRequest len checksum payload => .wire (FrameControl.ordinal .pbSdnRequest :: len :: checksum :: payload)
  | .ack len checksum payload => .wire (FrameControl.ordinal .ack :: len :: checksum :: payload)
  | .nack len checksum payload => .wire (FrameControl.ordinal .nack :: len :: checksum :: payload)
  | .openLink link => .host { CommandPort.bare (CmdOp.code .openLink) with link := link }
  | .close => .host (CommandPort.bare (CmdOp.code .close))
  | .pollReply => .host (CommandPort.bare (CmdOp.code .pollReply))
  | .sendMessage fc payload sync =>
    .host { CommandPort.bare (CmdOp.code .sendMessage) with fc := fc.bits, payload := payload, sync := sync }
  | .sendReset => .host (CommandPort.bare (CmdOp.code .sendReset))
  | .setPhyConfig baud => .host { CommandPort.bare (CmdOp.code .setPhyConfig) with baud := baud }
  | .sendTelegramSdn telegram sync =>
    .host { CommandPort.bare (CmdOp.code .sendTelegramSdn) with payload := telegram, sync := sync }
  | .sendTelegramSdr telegram sync =>
    .host { CommandPort.bare (CmdOp.code .sendTelegramSdr) with payload := telegram, sync := sync }

/-- The bytes from bit `8 * k` of a table word on, `count` of them. -/
def tableBytes (w : Nat) : Nat → Nat → List Byte
  | _, 0 => []
  | k, count + 1 => BitVec.ofNat 8 (w / 2 ^ (8 * k)) :: tableBytes w (k + 1) count

/-- The frame a FRAME row's word stands for: byte 0 first, then as many bytes as the header asks for (R66). -/
def tableFrame (w : Nat) : List Byte :=
  tableBytes w 0 (headerLen + (BitVec.ofNat 8 (w / 2 ^ 8)).toNat)

/-- The encoded form of a table word. The table's two formats use the same numbers 0 to 7 and are told apart
by the width alone: below one byte a HOSTCMD code, from one byte on the first bytes of a FRAME (log 15). -/
def tableEncoded (nbits w : Nat) : Encoded :=
  if nbits < 8 then .host (CommandPort.bare (BitVec.ofNat 3 (w % 2 ^ nbits)))
  else .wire (tableFrame (w % 2 ^ nbits))

/-- The instruction the decoder reads from a table word (log 15). -/
def decodeTableWord (nbits w : Nat) : Option Instr :=
  match decode (tableEncoded nbits w) with
  | .ok i => some i
  | .error _ => none

end Sys2Proof
end

