-- ==== Sys2Proof/Machine/State.lean ====
section
/-! DEFINITION. The state of the machine: every register 10_state.md names, the parameters, and beside the
engine its environment as plain data; the reasons a step can stop; the state after power-on reset (R28). -/

namespace Sys2Proof.Machine

/-- The sequencer states (R11). -/
inductive Seq where
  | idle | openArm | openRstLow | openHold | openXopen | openXcfg | openRstHigh | openBoot | openSwReset
  | openFail | close | lookup | tx | poll | rxHdr | rxPay | decode
  deriving DecidableEq, Repr

/-- The lifecycle state of the link (R18). -/
inductive Life where
  | closed | opened
  deriving DecidableEq, Repr

/-- The level of the reset line: low asserts the companion's reset (R21, R203). -/
inductive Level where
  | low | high
  deriving DecidableEq, Repr

/-- `res_kind` (R17). -/
inductive ResKind where
  | pending | ok | noReply | reply | error | rejected
  deriving DecidableEq, Repr

/-- One call of a collaborator's primitive, as the history records it (R24, R204). -/
inductive Call where
  | sigConfigure (line : Nat) (edge : Edge)
  | sigCheck (latched : Bool)
  | sigRelease (line : Nat)
  | rstLow (line : Nat)
  | rstHigh (line : Nat)
  | delay (duration : Nat)
  | xportOpen (link : Link) (success : Bool)
  | xportConfigure (wordSize cpol cpha csPol bitOrder maxClockHz : Nat) (success : Bool)
  | xportWrite (bytes : List Byte)
  | xportRead (bytes : List Byte)
  | xportClose
  deriving DecidableEq, Repr

/-- Whose turn comes next (R10, D1; log 2).

`engine`: the engine takes one sequencer step.
`edge`: the companion raises the ready signal (R194).
`emit`: the companion puts bytes on the read side (R45, R46).
`restock`: what waits on the read side is replaced, which is open while the transport is not held (U14; log 22).
`powerOn`: the platform applies power-on reset (R210; log 23). -/
inductive Turn where
  | engine
  | edge
  | emit (bytes : List Byte)
  | restock (bytes : List Byte)
  | powerOn
  deriving DecidableEq, Repr

/-- The machine. Field by field: 10_state.md R11, R12, R14 to R22; the parameters of R7; the environment of
R10, R23, R24, R41, R45; `overlapped`, the mark of a run in which a send was accepted while a reply was outstanding
(R216, U1; log 8); and `draws`, the model's own counter of free values (log 28). -/
structure State where
  -- control state (R11, R16, R18 to R22)
  seq : Seq
  life : Life
  sigArmed : Bool
  xportHeld : Bool
  readyLatch : Bool
  rstLine : Level
  outstanding : Bool
  pollCnt : Nat
  -- command operand registers (R12)
  cmdOp : CmdOp
  cmdFc : FrameControl
  cmdLen : BitVec 8
  cmdPayload : List Byte
  cmdSync : Bool
  cmdBaud : BitVec 32
  cmdLink : Link
  -- frame buffers (R14, R15)
  txbuf : List Byte
  txLen : Nat
  rxbuf : List Byte
  rxLen : Nat
  -- result registers (R17)
  resKind : ResKind
  resFc : FrameControl
  resLen : BitVec 8
  resPayload : List Byte
  resErr : ErrorKind
  resInfo : Byte
  -- parameters (R7)
  params : Params
  -- environment (R10, R23, R24, R41)
  host : List CommandPort
  schedule : List Turn
  readSide : List Byte
  linkAnswers : List Bool
  history : List Call
  -- the mark R216 asks of a model
  overlapped : Bool
  -- the model's own
  draws : Nat
  deriving DecidableEq, Repr

/-- A primitive called on a resource the engine does not hold. The primitives of Machine/Ops.lean and
Machine/Flags.lean raise them; the spec forbids such a call (R42, R143, R144, R196), no run from reset makes
one, and stopping there is safe (log 18). -/
inductive Fault where
  /-- Raised by XportWrite, XportRead and XportClose when `xport_held = 0`. Safe. -/
  | transportNotHeld
  /-- Raised by SigCheck and SigRelease when `sig_armed = 0`. Safe. -/
  | signalNotArmed
  deriving DecidableEq, Repr

/-- Why the model declines to run. -/
inductive Refusal where
  /-- Raised by exec's arm of an instruction without a meaning. Safe. -/
  | notModelled (mnemonic : String)
  /-- Raised by SEND_MESSAGE, the telegram commands, ENCODE in S_TX and the fetch of a command: a payload over
  255 bytes, which breaks the programming contract (R73, R96, U2). Safe (log 9). -/
  | payloadTooLong
  deriving DecidableEq, Repr

/-- A free level of the reset line (log 5). -/
def freeLevel (n : Nat) : Level := if Config.freeBool n then .high else .low

/-- How many draws R28's unspecified values take. -/
abbrev powerOnDraws : Nat := 1042

/-- The engine as power-on reset leaves it (R28, R210): the values of R28's table, and for each one it calls
unspecified a free value, the draws from `n` on (log 5). The parameters, the environment and the mark of the
run stay as given. -/
def State.atPowerOn (n : Nat) (params : Params) (host : List CommandPort) (schedule : List Turn)
    (readSide : List Byte) (linkAnswers : List Bool) (history : List Call) (overlapped : Bool) : State where
  seq := .idle
  life := .closed
  sigArmed := false
  xportHeld := false
  readyLatch := false
  rstLine := freeLevel n
  outstanding := false
  pollCnt := 0
  cmdOp := CmdOp.ofCode (Config.freeBits 3 (n + 1))
  cmdFc := FrameControl.ofBits (Config.freeBits 3 (n + 2))
  cmdLen := Config.freeBits 8 (n + 3)
  cmdPayload := Config.freeBytes (n + 16) payloadMax
  cmdSync := Config.freeBool (n + 4)
  cmdBaud := Config.freeBits 32 (n + 5)
  cmdLink := Config.freeLink (n + 6)
  txbuf := Config.freeBytes (n + 271) frameMax
  txLen := (Config.freeBits 9 (n + 7)).toNat
  rxbuf := Config.freeBytes (n + 529) frameMax
  rxLen := (Config.freeBits 9 (n + 8)).toNat
  resKind := .ok
  resFc := FrameControl.ofBits (Config.freeBits 3 (n + 9))
  resLen := Config.freeBits 8 (n + 10)
  resPayload := Config.freeBytes (n + 787) payloadMax
  resErr := Config.freeErrorKind (n + 11)
  resInfo := Config.freeBits 8 (n + 12)
  params := params
  host := host
  schedule := schedule
  readSide := readSide
  linkAnswers := linkAnswers
  history := history
  overlapped := overlapped
  draws := n + powerOnDraws

/-- The machine right after power-on reset: R28's table, the nominal parameters of R7, and an environment of
which nothing is recorded yet: no command, no turn, no byte, no answer, no call, no overlapping send (log 2, 3, 4,
8, 14, 27). -/
def State.reset : State := State.atPowerOn 0 Config.nominal [] [] [] [] [] false

end Sys2Proof.Machine
end

