-- ==== Sys2Proof/Machine/Ops.lean ====
section
/-! DEFINITION. The named operations: writes into a buffer register, the history, ending a command
(`complete`, R17), raising an error (R190), the transport and control-line primitives (R41 to R44, R203), the
delay (R201), and the steps of the environment (R45, R194, R210). -/

namespace Sys2Proof.Machine

/-- The outcome of a step of this machine. -/
abbrev Result := Host.Outcome State Fault Refusal

/-- A buffer register after the bytes `bs` were written from `offset` on; the rest keeps its value. -/
def overwrite (buf : List Byte) (offset : Nat) (bs : List Byte) : List Byte :=
  buf.take offset ++ bs ++ buf.drop (offset + bs.length)

/-- `seq <- q`. -/
def State.goto (s : State) (q : Seq) : State := { s with seq := q }

/-- A call of a collaborator enters the history (R24, R53). -/
def State.record (s : State) (c : Call) : State := { s with history := s.history ++ [c] }

/-- The blocks handed to XportWrite, oldest first (R24 `tx_log`). -/
def txLog : List Call → List (List Byte)
  | [] => []
  | .xportWrite bytes :: rest => bytes :: txLog rest
  | _ :: rest => txLog rest

/-- The blocks the XportRead calls returned, oldest first (R24 `rx_log`). -/
def rxLog : List Call → List (List Byte)
  | [] => []
  | .xportRead bytes :: rest => bytes :: rxLog rest
  | _ :: rest => rxLog rest

/-! ### Ending a command -/

/-- The shapes of a command's result (R17). -/
inductive CmdResult where
  | ok
  | noReply
  | reply (f : Frame)
  | error (kind : ErrorKind) (info : Byte)
  | rejected (reason : ErrorKind)
  deriving DecidableEq, Repr

/-- The result registers as `complete(r)` writes them (R17); for REJECTED `res_info` is 0 (R180; log 11). -/
def State.setResult (s : State) : CmdResult → State
  | .ok => { s with resKind := .ok }
  | .noReply => { s with resKind := .noReply }
  | .reply f =>
    { s with
      resKind := .reply
      resFc := f.fc
      resLen := BitVec.ofNat 8 f.payload.length
      resPayload := overwrite s.resPayload 0 f.payload }
  | .error kind info => { s with resKind := .error, resErr := kind, resInfo := info }
  | .rejected reason => { s with resKind := .rejected, resErr := reason, resInfo := 0 }

/-- `complete(r)`: the result registers are written and `seq <- S_IDLE`, in one step (R17). -/
def complete (r : CmdResult) (s : State) : State := (s.setResult r).goto .idle

/-- `fail(E)` of OPEN (R130): the error is kept in the result registers and the clean-up state runs next
(`res_info` 0 but for an unknown frame control: R180; log 11). -/
def failOpen (kind : ErrorKind) (info : Byte) (s : State) : State :=
  { s with resErr := kind, resInfo := info, seq := .openFail }

/-- `raise E(info)`, the one delivery of an error in a transaction (R190): the command ends with ERROR; in an
OPEN the clean-up state runs first (R139, R154, R151). Nothing else is saved and there is no handler; the
return is the next command the idle engine takes (R191). -/
def raiseError (kind : ErrorKind) (info : Byte) (s : State) : State :=
  if s.cmdOp = .openLink then failOpen kind info s else complete (.error kind info) s

/-! ### The transport (20_memory.md) -/

/-- `XportWrite(v)`: one block is appended to the write side (R42, D20). It always succeeds (D26; log 19). -/
def xportWrite (v : List Byte) (s : State) (k : State → Result) : Result :=
  if s.xportHeld then k (s.record (.xportWrite v)) else .fault .transportNotHeld

/-- The `n` bytes a read returns: the oldest bytes waiting, and past them free bytes (R43, R46, U11; log 3). -/
def readBytes (n : Nat) (s : State) : List Byte :=
  s.readSide.take n ++ Config.freeBytes s.draws (n - s.readSide.length)

/-- `XportRead(n)`: exactly `n` bytes, which are consumed (R43, D26). -/
def xportRead (n : Nat) (s : State) (k : List Byte → State → Result) : Result :=
  if s.xportHeld then
    let bytes := readBytes n s
    k bytes
      ({ s with readSide := s.readSide.drop n, draws := s.draws + (n - s.readSide.length) }.record
        (.xportRead bytes))
  else .fault .transportNotHeld

/-- The outcome the environment gives the next XportOpen or XportConfigure: the next recorded answer, or a free
one (R41, U12; log 4). -/
def nextAnswer (s : State) : Bool :=
  match s.linkAnswers with
  | [] => Config.freeBool s.draws
  | a :: _ => a

/-- The environment after it gave an answer. -/
def dropAnswer (s : State) : State :=
  match s.linkAnswers with
  | [] => { s with draws := s.draws + 1 }
  | _ :: rest => { s with linkAnswers := rest }

/-- `XportOpen(l)` (R41): on success `xport_held <- 1` (R134). -/
def xportOpen (l : Link) (s : State) : Bool × State :=
  let ok := nextAnswer s
  (ok, { (dropAnswer s).record (.xportOpen l ok) with xportHeld := s.xportHeld || ok })

/-- `XportConfigure(..)`: word size 8 and the options of R7 (R41). -/
def xportConfigure (s : State) : Bool × State :=
  let ok := nextAnswer s
  (ok, (dropAnswer s).record
    (.xportConfigure xportWordSize s.params.cpol s.params.cpha s.params.csPol s.params.bitOrder
      s.params.maxClockHz ok))

/-- `XportClose()`: `xport_held <- 0` (R44); never on a transport that is not held (R143). -/
def xportClose (s : State) (k : State → Result) : Result :=
  if s.xportHeld then k { s.record .xportClose with xportHeld := false } else .fault .transportNotHeld

/-! ### The control line and the delay (60_exceptions.md) -/

/-- `RstLow()` (R203). -/
def rstLow (s : State) : State := { s.record (.rstLow s.params.rstLineId) with rstLine := .low }

/-- `RstHigh()` (R203). -/
def rstHigh (s : State) : State := { s.record (.rstHigh s.params.rstLineId) with rstLine := .high }

/-- `Delay(t)`: no effect on the engine (R201). A pause of zero is no call (log 17). -/
def delay (t : Nat) (s : State) : State := if t = 0 then s else s.record (.delay t)

/-! ### The environment's steps -/

/-- The companion puts bytes on the read side, behind those that wait (R45, R46). -/
def emitBytes (bytes : List Byte) (s : State) : State := { s with readSide := s.readSide ++ bytes }

/-- What waits on the read side becomes `bytes`; only while the transport is not held (U14; log 22). -/
def restock (bytes : List Byte) (s : State) : State :=
  if s.xportHeld then s else { s with readSide := bytes }

/-- Power-on reset in the middle of a run: the engine takes R28's values; no primitive is called, and the
parameters, the environment and the mark of the run are as before (R210; log 23). -/
def powerOnReset (s : State) : State :=
  State.atPowerOn s.draws s.params s.host s.schedule s.readSide s.linkAnswers s.history s.overlapped

/-- The bytes S_DECODE reads: `rxbuf[0..rx_len-1]` (R15, R154). -/
def received (s : State) : List Byte := s.rxbuf.take s.rxLen

end Sys2Proof.Machine
end

