-- ==== Sys2Proof/Machine/Flags.lean ====
section
/-! DEFINITION. The engine's one flag, the ready latch, with the three primitives of the signal collaborator and
the edge (R20, R193 to R198; D7, log 20). -/

namespace Sys2Proof.Machine

/-- `SigConfigure(RISING)`: armed, and the latch starts clear (R195). -/
def sigConfigure (s : State) : State :=
  { s.record (.sigConfigure s.params.sigLineId .rising) with sigArmed := true, readyLatch := false }

/-- `SigCheck()`: returns the latch and clears it, in one step (R196); requires an armed signal. -/
def sigCheck (s : State) (k : Bool → State → Result) : Result :=
  if s.sigArmed then k s.readyLatch { s.record (.sigCheck s.readyLatch) with readyLatch := false }
  else .fault .signalNotArmed

/-- `SigRelease()`: disarmed, latch clear (R197); never on a signal that is not held (R143). -/
def sigRelease (s : State) (k : State → Result) : Result :=
  if s.sigArmed then
    k { s.record (.sigRelease s.params.sigLineId) with sigArmed := false, readyLatch := false }
  else .fault .signalNotArmed

/-- `ReadyEdge`: latched while the signal is armed, otherwise lost; edges merge (R194). -/
def readyEdge (s : State) : State := if s.sigArmed then { s with readyLatch := true } else s

end Sys2Proof.Machine
end

