-- ==== Sys2Proof/Machine/Operands.lean ====
section
/-! DEFINITION. Accepting a host command: the lifecycle gate (R144), the operand registers (R12, R13) and the
fetch of the next presented command. -/

namespace Sys2Proof.Machine

/-- What the lifecycle gate answers. -/
inductive Gate where
  | accepted
  | nothingToDo
  | rejected (reason : ErrorKind)
  deriving DecidableEq, Repr

/-- The lifecycle gate (R144): the command against the lifecycle state. -/
def gate (op : CmdOp) (life : Life) : Gate :=
  match op, life with
  | .openLink, .closed => .accepted
  | .openLink, .opened => .rejected .alreadyOpen
  | .close, .closed => .nothingToDo
  | .close, .opened => .accepted
  | _, .closed => .rejected .notOpen
  | _, .opened => .accepted

/-- The frame operands `cmd_fc`, `cmd_len`, `cmd_payload`, `cmd_sync` (R12, R13). Bytes of `cmd_payload` past the
payload keep their value and are not meaningful (R12; log 13). -/
def loadFrame (fc : FrameControl) (payload : List Byte) (sync : Bool) (s : State) : State :=
  { s with
    cmdFc := fc
    cmdLen := BitVec.ofNat 8 payload.length
    cmdPayload := overwrite s.cmdPayload 0 payload
    cmdSync := sync }

/-- The hazard of R216: a send accepted while `outstanding = 1` marks the run, for good (U1, D10; log 8). `sends` is
whether the accepted command sends. The engine reads the mark nowhere. -/
def noteSend (sends : Bool) (s : State) : State :=
  { s with overlapped := s.overlapped || (sends && s.outstanding) }

/-- What acceptance writes beside the operands: the command, `res_kind <- PENDING`, `poll_cnt <- 0` and the
first state (R13). -/
def beginCommand (op : CmdOp) (first : Seq) (s : State) : State :=
  { s with cmdOp := op, resKind := .pending, pollCnt := 0, seq := first }

/-- Acceptance of a command (R13) through the gate (R144). `load` copies its operands and `first` is its first
state (R70). A refused command has no effect but its result (R143, R192; log 10); none is accepted outside
S_IDLE (R13; log 12). -/
def accept (op : CmdOp) (load : State → State) (first : Seq) (s : State) : Result :=
  if s.seq = .idle then
    match gate op s.life with
    | .accepted => .next (beginCommand op first (load s))
    | .nothingToDo => .next (complete .ok s)
    | .rejected reason => .next (complete (.rejected reason) s)
  else .next s

/-- Acceptance of a command that sends a frame with a payload: over 255 bytes it is no command (R73, R96, U2; log 9).
The send is noted for R216. -/
def acceptPayload (op : CmdOp) (fc : FrameControl) (payload : List Byte) (sync : Bool) (s : State) : Result :=
  if payload.length ≤ payloadMax then accept op (fun s => loadFrame fc payload sync (noteSend true s)) .tx s
  else .refused .payloadTooLong

/-- The state once the host's first presented command has been taken (R13). -/
def takeCommand (s : State) : State := { s with host := s.host.tail }

end Sys2Proof.Machine
end

