-- ==== Sys2Proof/Machine/Transactions.lean ====
section
/-! DEFINITION. The six transaction commands and the sequencer states they share: S_LOOKUP, S_TX, S_POLL,
S_RX_HDR, S_RX_PAY and the end of a transaction (43_phy_transactions.md). -/

namespace Sys2Proof.Machine

/-! ### Acceptance of the commands -/

/-- POLL_REPLY (R150): one pass of S_POLL. -/
def execPollReply (s : State) : Result := accept .pollReply id .poll s

/-- SEND_MESSAGE (R156): any frame control, a payload of 0..255 bytes, synchronous or not. -/
def execSendMessage (fc : FrameControl) (payload : List Byte) (sync : Bool) (s : State) : Result :=
  acceptPayload .sendMessage fc payload sync s

/-- SEND_RESET (R157): SEND_MESSAGE with RESET, no payload, synchronous. -/
def execSendReset (s : State) : Result := acceptPayload .sendReset .reset [] true s

/-- SET_PHY_CONFIG (R158): the rate is looked up first. With a supported rate it is a send (R216). -/
def execSetPhyConfig (baud : BitVec 32) (s : State) : Result :=
  accept .setPhyConfig (fun s => { noteSend (baudLookup baud).isSome s with cmdBaud := baud }) .lookup s

/-- SEND_TELEGRAM_SDN (R160): the telegram as the payload of a PB_SDN_REQUEST. -/
def execSendTelegramSdn (telegram : List Byte) (sync : Bool) (s : State) : Result :=
  acceptPayload .sendTelegramSdn .pbSdnRequest telegram sync s

/-- SEND_TELEGRAM_SDR (R161): the telegram as the payload of a PB_SDR_REQUEST. -/
def execSendTelegramSdr (telegram : List Byte) (sync : Bool) (s : State) : Result :=
  acceptPayload .sendTelegramSdr .pbSdrRequest telegram sync s

/-! ### The sequencer states -/

/-- S_LOOKUP (R159): an unsupported rate ends the command before any I/O; otherwise the identifier is the
one-byte payload of a synchronous SET_CONFIG. -/
def stepLookup (s : State) : Result :=
  match baudLookup s.cmdBaud with
  | none => .next (complete (.error .invalidBaudRate 0) s)
  | some ident => .next ((loadFrame .setConfig [ident] true s).goto .tx)

/-- The frame the operand registers hold (R14). -/
def commandFrame (s : State) : Frame where
  fc := s.cmdFc
  payload := s.cmdPayload.take s.cmdLen.toNat

/-- The transmit buffer with a frame in it (R14). -/
def fillTx (bytes : List Byte) (s : State) : State :=
  { s with txbuf := overwrite s.txbuf 0 bytes, txLen := bytes.length }

/-- S_TX after the write (R155): an asynchronous send is over, a synchronous one starts its wait. -/
def afterWrite (s : State) : State :=
  let s := { s with outstanding := true }
  if s.cmdSync then { s with pollCnt := 0, seq := .poll } else complete .ok s

/-- S_TX (R155): the frame is encoded and written in one block. -/
def stepTx (s : State) : Result :=
  match encodeFrame (commandFrame s) with
  | none => .refused .payloadTooLong
  | some bytes => xportWrite bytes (fillTx bytes s) fun s => .next (afterWrite s)

/-- The pause between two polls, and S_POLL again (R151, R167). -/
def pollAgain (s : State) : State := (delay s.params.pollGap s).goto .poll

/-- An empty poll of a synchronous wait (R151, R165): it counts only when the wait is bounded. -/
def emptyPoll (s : State) : State :=
  match s.params.syncTimeoutPolls with
  | none => pollAgain s
  | some t =>
    let s := { s with pollCnt := s.pollCnt + 1 }
    if t ≤ s.pollCnt then raiseError .timeout 0 s else pollAgain s

/-- S_POLL (R151): one check of the ready latch. -/
def stepPoll (s : State) : Result :=
  sigCheck s fun latched s =>
    if latched then .next (s.goto .rxHdr)
    else if s.cmdOp = .pollReply then .next (complete .noReply s)
    else .next (emptyPoll s)

/-- The length byte of the received header, `rxbuf[1]` (R63, R66). -/
def lengthByte (s : State) : Byte := s.rxbuf.getD 1 0

/-- S_RX_HDR (R152): three bytes, whatever they are; then the payload if the length byte asks for one. -/
def stepRxHdr (s : State) : Result :=
  xportRead headerLen s fun bytes s =>
    let s := { s with rxbuf := overwrite s.rxbuf 0 bytes, rxLen := headerLen }
    .next (s.goto (if lengthByte s = 0 then .decode else .rxPay))

/-- S_RX_PAY (R153): exactly as many bytes as the length byte says. -/
def stepRxPay (s : State) : Result :=
  let len := (lengthByte s).toNat
  xportRead len s fun bytes s =>
    .next ({ s with rxbuf := overwrite s.rxbuf headerLen bytes, rxLen := headerLen + len }.goto .decode)

/-- The end of a transaction in S_DECODE (R154, R139): `outstanding` is cleared; a frame opens the link or is the
reply, an error ends the command. -/
def endTransaction (r : Except DecodeError Frame) (s : State) : State :=
  let s := { s with outstanding := false }
  match r with
  | .ok f =>
    if s.cmdOp = .openLink then complete .ok { s with life := .opened } else complete (.reply f) s
  | .error e => raiseError e.kind e.info s

end Sys2Proof.Machine
end

