-- ==== Sys2Proof/Machine/Lifecycle.lean ====
section
/-! DEFINITION. The lifecycle commands OPEN and CLOSE and their sequencer states (42_phy_lifecycle.md). -/

namespace Sys2Proof.Machine

/-- OPEN (R130): brings the link up, one sequencer state per action. -/
def execOpen (link : Link) (s : State) : Result :=
  accept .openLink (fun s => { s with cmdLink := link }) .openArm s

/-- CLOSE (R142), and its harmless second call (R143). -/
def execClose (s : State) : Result := accept .close id .close s

/-- S_OPEN_ARM (R131). -/
def stepOpenArm (s : State) : Result :=
  .next ({ sigConfigure s with outstanding := false }.goto .openRstLow)

/-- S_OPEN_RSTLOW (R132). -/
def stepOpenRstLow (s : State) : Result := .next ((rstLow s).goto .openHold)

/-- S_OPEN_HOLD (R133). -/
def stepOpenHold (s : State) : Result := .next ((delay s.params.resetHold s).goto .openXopen)

/-- S_OPEN_XOPEN (R134). -/
def stepOpenXopen (s : State) : Result :=
  match xportOpen s.cmdLink s with
  | (true, s) => .next (s.goto .openXcfg)
  | (false, s) => .next (failOpen .transportOpenError 0 s)

/-- S_OPEN_XCFG (R135): on failure the half-initialised transport is closed at once. -/
def stepOpenXcfg (s : State) : Result :=
  match xportConfigure s with
  | (true, s) => .next (s.goto .openRstHigh)
  | (false, s) => xportClose s fun s => .next (failOpen .transportConfigError 0 s)

/-- S_OPEN_RSTHIGH (R136). -/
def stepOpenRstHigh (s : State) : Result := .next ((rstHigh s).goto .openBoot)

/-- S_OPEN_BOOT (R137). -/
def stepOpenBoot (s : State) : Result := .next ((delay s.params.bootWait s).goto .openSwReset)

/-- S_OPEN_SWRESET (R138): the soft reset is set up as a synchronous RESET without payload. -/
def stepOpenSwReset (s : State) : Result := .next ((loadFrame .reset [] true s).goto .tx)

/-- The tail of S_OPEN_FAIL (R140): the signal is released, then the error is delivered. -/
def releaseAndReport (s : State) : Result :=
  sigRelease s fun s => .next (complete (.error s.resErr s.resInfo) { s with outstanding := false })

/-- S_OPEN_FAIL (R140): what was acquired is released, transport first (D27); `life` stays as it is, CLOSED. -/
def stepOpenFail (s : State) : Result :=
  if s.xportHeld then xportClose s releaseAndReport else releaseAndReport s

/-- S_CLOSE (R142): transport, then signal. -/
def stepClose (s : State) : Result :=
  xportClose s fun s => sigRelease s fun s =>
    .next (complete .ok { s with outstanding := false, life := .closed })

end Sys2Proof.Machine
end

