-- ==== Sys2Proof/Machine/Wire.lean ====
section
/-! DEFINITION. The eight wire messages as instructions (41_wire_messages.md): what the engine does when S_DECODE
finds one in its receive buffer. All types are treated alike but for the NOP short-circuit inside DECODE (R110). -/

namespace Sys2Proof.Machine

/-- A frame of these bytes in S_DECODE: it is decoded and ends the transaction (R154). In any other state the
engine decodes nothing (R223; log 12). -/
def receiveFrame (bytes : List Byte) (s : State) : Result :=
  if s.seq = .decode then .next (endTransaction (decodeBuffer bytes) s) else .next s

/-- The bytes of a frame with these fields (R60). -/
def fieldBytes (fc : FrameControl) (len checksum : Byte) (payload : List Byte) : List Byte :=
  fc.ordinal :: len :: checksum :: payload

/-- NOP (R111): delivered as `(NOP, [])` whatever follows byte 0. -/
def execNop (rest : List Byte) (s : State) : Result :=
  receiveFrame (FrameControl.ordinal .nop :: rest) s

/-- RESET (R112): decoded like any frame. -/
def execReset (len checksum : Byte) (payload : List Byte) (s : State) : Result :=
  receiveFrame (fieldBytes .reset len checksum payload) s

/-- SET_CONFIG (R113): decoded like any frame; the payload is not looked into. -/
def execSetConfig (len checksum : Byte) (payload : List Byte) (s : State) : Result :=
  receiveFrame (fieldBytes .setConfig len checksum payload) s

/-- PB_SDR_REQUEST (R114): decoded like any frame. -/
def execPbSdrRequest (len checksum : Byte) (payload : List Byte) (s : State) : Result :=
  receiveFrame (fieldBytes .pbSdrRequest len checksum payload) s

/-- PB_SDR_REPLY (R115): delivered as the reply, payload unmodified. -/
def execPbSdrReply (len checksum : Byte) (payload : List Byte) (s : State) : Result :=
  receiveFrame (fieldBytes .pbSdrReply len checksum payload) s

/-- PB_SDN_REQUEST (R116): decoded like any frame. -/
def execPbSdnRequest (len checksum : Byte) (payload : List Byte) (s : State) : Result :=
  receiveFrame (fieldBytes .pbSdnRequest len checksum payload) s

/-- ACK (R117): delivered as the reply; no conclusion is drawn from it. -/
def execAck (len checksum : Byte) (payload : List Byte) (s : State) : Result :=
  receiveFrame (fieldBytes .ack len checksum payload) s

/-- NACK (R118): delivered as the reply; it is no error of the engine. -/
def execNack (len checksum : Byte) (payload : List Byte) (s : State) : Result :=
  receiveFrame (fieldBytes .nack len checksum payload) s

/-- A received buffer that is no wire message: the error ends the transaction (R154, R67). -/
def rejectBuffer (e : DecodeError) (s : State) : Result := .next (endTransaction (.error e) s)

end Sys2Proof.Machine
end

