-- ==== Sys2Proof/Machine/Sequencer.lean ====
section
/-! DEFINITION. Whose turn it is and what the engine finds to do in its turn: in S_IDLE the host's next command,
in S_DECODE the received buffer, in every other state that state's own work (R10, R11). -/

namespace Sys2Proof.Machine

/-- A turn, taken from the schedule: the engine's, to be played in the given state, or one of the environment,
already played (R10, D1; log 2). -/
inductive Move where
  | engine (s : State)
  | environment (s : State)
  deriving DecidableEq, Repr

/-- The next turn. An empty schedule gives it to the engine (log 2). -/
def takeTurn (s : State) : Move :=
  match s.schedule with
  | [] => .engine s
  | .engine :: rest => .engine { s with schedule := rest }
  | .edge :: rest => .environment (readyEdge { s with schedule := rest })
  | .emit bytes :: rest => .environment (emitBytes bytes { s with schedule := rest })
  | .restock bytes :: rest => .environment (restock bytes { s with schedule := rest })
  | .powerOn :: rest => .environment (powerOnReset { s with schedule := rest })

/-- What the engine's turn is: an instruction to run in the given state, or an outcome of its own. -/
inductive Work where
  | run (i : Instr) (s : State)
  | done (r : Result)

/-- The engine's work in its sequencer state (R11). An idle engine without a command does nothing (R210). A
presented payload over 255 bytes is refused (U2), a buffer that is no message is rejected (R154). -/
def fetch (s : State) : Work :=
  match s.seq with
  | .idle =>
    match s.host with
    | [] => .done (.next s)
    | port :: _ =>
      match decodeCommand port with
      | .ok i => .run i (takeCommand s)
      | .error _ => .done (.refused .payloadTooLong)
  | .decode =>
    match decodeMessage (received s) with
    | .ok i => .run i s
    | .error e => .done (rejectBuffer e s)
  | .openArm => .done (stepOpenArm s)
  | .openRstLow => .done (stepOpenRstLow s)
  | .openHold => .done (stepOpenHold s)
  | .openXopen => .done (stepOpenXopen s)
  | .openXcfg => .done (stepOpenXcfg s)
  | .openRstHigh => .done (stepOpenRstHigh s)
  | .openBoot => .done (stepOpenBoot s)
  | .openSwReset => .done (stepOpenSwReset s)
  | .openFail => .done (stepOpenFail s)
  | .close => .done (stepClose s)
  | .lookup => .done (stepLookup s)
  | .tx => .done (stepTx s)
  | .poll => .done (stepPoll s)
  | .rxHdr => .done (stepRxHdr s)
  | .rxPay => .done (stepRxPay s)

/-- An encoded instruction placed where the engine's next turn finds it: a command first at the host's port of an
idle engine, a frame in the receive buffer of an engine in S_DECODE of a POLL_REPLY (log 16). -/
def place (e : Encoded) (s : State) : State :=
  match e with
  | .host port => { s with seq := .idle, host := port :: s.host, schedule := .engine :: s.schedule }
  | .wire bytes =>
    { s with
      seq := .decode
      cmdOp := .pollReply
      rxbuf := overwrite s.rxbuf 0 bytes
      rxLen := bytes.length
      schedule := .engine :: s.schedule }

end Sys2Proof.Machine
end

