-- ==== Sys2Proof/Machine/Dispatch.lean ====
section
/-! DEFINITION. exec: one arm per row of the opcode table, each one direct call of its meaning. -/

namespace Sys2Proof.Machine

def exec (i : Instr) (s : State) : Host.Outcome State Fault Refusal :=
  match i with
  -- FRAME rows (41_wire_messages.md)
  | .nop rest => Sys2Proof.Machine.execNop rest s
  | .reset len checksum payload => Sys2Proof.Machine.execReset len checksum payload s
  | .setConfig len checksum payload => Sys2Proof.Machine.execSetConfig len checksum payload s
  | .pbSdrRequest len checksum payload => Sys2Proof.Machine.execPbSdrRequest len checksum payload s
  | .pbSdrReply len checksum payload => Sys2Proof.Machine.execPbSdrReply len checksum payload s
  | .pbSdnRequest len checksum payload => Sys2Proof.Machine.execPbSdnRequest len checksum payload s
  | .ack len checksum payload => Sys2Proof.Machine.execAck len checksum payload s
  | .nack len checksum payload => Sys2Proof.Machine.execNack len checksum payload s
  -- HOSTCMD rows (42_phy_lifecycle.md, 43_phy_transactions.md)
  | .openLink link => Sys2Proof.Machine.execOpen link s
  | .close => Sys2Proof.Machine.execClose s
  | .pollReply => Sys2Proof.Machine.execPollReply s
  | .sendMessage fc payload sync => Sys2Proof.Machine.execSendMessage fc payload sync s
  | .sendReset => Sys2Proof.Machine.execSendReset s
  | .setPhyConfig baud => Sys2Proof.Machine.execSetPhyConfig baud s
  | .sendTelegramSdn telegram sync => Sys2Proof.Machine.execSendTelegramSdn telegram sync s
  | .sendTelegramSdr telegram sync => Sys2Proof.Machine.execSendTelegramSdr telegram sync s

end Sys2Proof.Machine
end

