-- ==== Sys2Proof/Machine/Step.lean ====
section
/-! DEFINITION. One step of the machine: one turn of one agent (R10). -/

namespace Sys2Proof.Machine

/-- The engine's turn: one sequencer state does its work (R10, R11). -/
def engineStep (s : State) : Host.Outcome State Fault Refusal :=
  match fetch s with
  | .run i s => exec i s
  | .done r => r

/-- One step: the next turn of the schedule (R10, D1; log 2). -/
def step (s : State) : Host.Outcome State Fault Refusal :=
  match takeTurn s with
  | .engine s => engineStep s
  | .environment s => .next s

/-- `s` with the table word placed where the next step fetches it (log 15, log 16). -/
def State.withFetchWord (s : State) (nbits w : Nat) : State := place (tableEncoded nbits w) s

end Sys2Proof.Machine
end

