-- ==== Sys2Proof/Safety.lean ====
section
/-! DEFINITION. What statements about the machine are phrased in: the invariant of reachable states, the
discipline of reads, the balance of acquired and released resources, a flipped bit, the classes of commands. -/

namespace Sys2Proof

/-! ### Classes of instructions -/

/-- The five commands that send a frame (R216). -/
def CmdOp.sends : CmdOp → Bool
  | .openLink | .close | .pollReply => false
  | .sendMessage | .sendReset | .setPhyConfig | .sendTelegramSdn | .sendTelegramSdr => true

/-- Which host command an instruction is; none for a wire message. -/
def commandOf : Instr → Option CmdOp
  | .nop _ | .reset _ _ _ | .setConfig _ _ _ | .pbSdrRequest _ _ _ => none
  | .pbSdrReply _ _ _ | .pbSdnRequest _ _ _ | .ack _ _ _ | .nack _ _ _ => none
  | .openLink _ => some .openLink
  | .close => some .close
  | .pollReply => some .pollReply
  | .sendMessage _ _ _ => some .sendMessage
  | .sendReset => some .sendReset
  | .setPhyConfig _ => some .setPhyConfig
  | .sendTelegramSdn _ _ => some .sendTelegramSdn
  | .sendTelegramSdr _ _ => some .sendTelegramSdr

/-- The frame a wire message delivers (R99, R111 to R118); none for a host command. -/
def deliveredFrame : Instr → Option Frame
  | .nop _ => some { fc := .nop, payload := [] }
  | .reset _ _ payload => some { fc := .reset, payload := payload }
  | .setConfig _ _ payload => some { fc := .setConfig, payload := payload }
  | .pbSdrRequest _ _ payload => some { fc := .pbSdrRequest, payload := payload }
  | .pbSdrReply _ _ payload => some { fc := .pbSdrReply, payload := payload }
  | .pbSdnRequest _ _ payload => some { fc := .pbSdnRequest, payload := payload }
  | .ack _ _ payload => some { fc := .ack, payload := payload }
  | .nack _ _ payload => some { fc := .nack, payload := payload }
  | .openLink _ | .close | .pollReply | .sendMessage _ _ _ => none
  | .sendReset | .setPhyConfig _ | .sendTelegramSdn _ _ | .sendTelegramSdr _ _ => none

end Sys2Proof

namespace Sys2Proof.Machine

/-! ### The invariant of reachable states -/

/-- The buffer registers have their sizes and the 9-bit counts their range (R12, R14, R15, R17). -/
def State.sized (s : State) : Bool :=
  decide (s.cmdPayload.length = payloadMax) && decide (s.resPayload.length = payloadMax) &&
  decide (s.txbuf.length = frameMax) && decide (s.rxbuf.length = frameMax) &&
  decide (s.txLen < 512) && decide (s.rxLen < 512)

/-- `res_kind` is PENDING exactly while a command runs (R17, R227). -/
def State.pendingWhileBusy (s : State) : Bool :=
  decide (s.resKind = .pending) == !decide (s.seq = .idle)

/-- Both resources are held on an open link and its reset line is high (R19, R215), and an edge is latched only
while the signal is armed (R194). -/
def State.resourcesHeld (s : State) : Bool :=
  (!decide (s.life = .opened) || (s.sigArmed && s.xportHeld && decide (s.rstLine = .high))) &&
  (!s.readyLatch || s.sigArmed)

/-- In an OPEN (R130, R18): the link is still closed. -/
def State.opening (s : State) : Bool := decide (s.cmdOp = .openLink) && decide (s.life = .closed)

/-- In OPEN's soft-reset transaction, or in a command of the class `ops` on an open link (R144). -/
def State.transacting (s : State) (ops : CmdOp → Bool) : Bool :=
  (s.opening && s.sigArmed && s.xportHeld && decide (s.rstLine = .high) && s.cmdSync) ||
  (decide (s.life = .opened) && ops s.cmdOp)

/-- In the receive path: a POLL_REPLY, or a synchronous wait (R151, R155). -/
def State.receiving (s : State) : Bool :=
  s.transacting (fun op => op.sends || decide (op = .pollReply)) &&
  (s.cmdSync || decide (s.cmdOp = .pollReply))

/-- What holds in each sequencer state (42_phy_lifecycle.md, 43_phy_transactions.md). -/
def State.staged (s : State) : Bool :=
  match s.seq with
  | .idle => decide (s.life = .opened) || (!s.sigArmed && !s.xportHeld && !s.outstanding)
  | .openArm => s.opening && !s.sigArmed && !s.xportHeld
  | .openRstLow => s.opening && s.sigArmed && !s.xportHeld
  | .openHold | .openXopen => s.opening && s.sigArmed && !s.xportHeld && decide (s.rstLine = .low)
  | .openXcfg | .openRstHigh => s.opening && s.sigArmed && s.xportHeld && decide (s.rstLine = .low)
  | .openBoot | .openSwReset => s.opening && s.sigArmed && s.xportHeld && decide (s.rstLine = .high)
  | .openFail => s.opening && s.sigArmed
  | .close => decide (s.cmdOp = .close) && decide (s.life = .opened)
  | .lookup => decide (s.cmdOp = .setPhyConfig) && decide (s.life = .opened)
  | .tx => s.transacting CmdOp.sends
  | .poll | .rxHdr => s.receiving
  | .rxPay => s.receiving && decide (s.rxLen = headerLen) && !decide (lengthByte s = 0)
  | .decode => s.receiving && decide (s.rxLen = headerLen + (lengthByte s).toNat)

/-- The invariant of the states a run from reset passes through. -/
def State.inv (s : State) : Bool :=
  s.sized && s.pendingWhileBusy && s.resourcesHeld && s.staged && s.params.wf

/-! ### Check, then read (R223) -/

/-- What the last calls of a history allow the next XportRead to be. -/
inductive ReadPermit where
  | nothing
  | header
  | payload
  deriving DecidableEq, Repr

/-- The permit after one more call; `none` if the call was a read without one. -/
def ReadPermit.after : ReadPermit → Call → Option ReadPermit
  | _, .sigCheck true => some .header
  | .header, .xportRead bytes => if bytes.length = headerLen then some .payload else none
  | .payload, .xportRead _ => some .nothing
  | .nothing, .xportRead _ => none
  | _, _ => some .nothing

/-- The permit after a whole history, oldest call first; `none` if a read in it had no permit. -/
def readPermit (history : List Call) : Option ReadPermit :=
  history.foldl (fun p c => p.bind fun q => q.after c) (some .nothing)

/-- Every XportRead of the history came directly after a true SigCheck or directly after the header read of its
frame, and the reads the sequencer is about to make will too (R47, R223). -/
def State.readsChecked (s : State) : Bool :=
  match readPermit s.history with
  | none => false
  | some p =>
    (!decide (s.seq = .rxHdr) || decide (p = .header)) && (!decide (s.seq = .rxPay) || decide (p = .payload))

/-! ### Acquired and released (R140, R142) -/

/-- One for a call that acquires the transport, minus one for one that gives it back. -/
def Call.transportDelta : Call → Int
  | .xportOpen _ true => 1
  | .xportClose => -1
  | _ => 0

/-- One for a call that acquires the signal, minus one for one that gives it back. -/
def Call.signalDelta : Call → Int
  | .sigConfigure _ _ => 1
  | .sigRelease _ => -1
  | _ => 0

/-- The sum of a call's weight over a history. -/
def tally (weight : Call → Int) : List Call → Int
  | [] => 0
  | c :: rest => weight c + tally weight rest

/-- As many acquisitions as releases, and one more of each resource that is held (R19). -/
def State.balanced (s : State) : Bool :=
  decide (tally Call.transportDelta s.history = if s.xportHeld then 1 else 0) &&
  decide (tally Call.signalDelta s.history = if s.sigArmed then 1 else 0)

/-! ### Other notions of the statements -/

/-- The buffer with bit `bit` of the byte at `offset` flipped (R102). -/
def flipBit (buf : List Byte) (offset bit : Nat) : List Byte :=
  buf.set offset (buf.getD offset 0 ^^^ BitVec.twoPow 8 bit)

/-- How many engine steps a POLL_REPLY has left at most (R150). -/
def pollReplyLeft : Seq → Nat
  | .poll => 4
  | .rxHdr => 3
  | .rxPay => 2
  | .decode => 1
  | _ => 0

/-- The engine on an open link, ready for the host (R215): what a claim about later commands starts from. -/
def State.ready (s : State) : Bool :=
  decide (s.seq = .idle) && decide (s.life = .opened) && s.sigArmed && s.xportHeld

/-- The next state of an outcome, changed by `f`; a stop stays as it is. -/
def mapNext (f : State → State) : Result → Result
  | .next s => .next (f s)
  | .fault r => .fault r
  | .refused r => .refused r

end Sys2Proof.Machine
end

