-- ==== Sys2Proof/Certificates/Slice0/Obligations.lean ====
section
/-! DEFINITION. The statements for the provers. A record update `{ s with … }` in a conclusion is the frame as well:
every field it does not name is as in `s`. Words of the spec are quoted with their rule; a clause that rests on
the model's own choice names its log entry. -/

open Sys2Proof Sys2Proof.Machine

/-! ### Encoding and codec (30_encoding.md, 40_frame_codec.md) -/

/-- Decoding the encoding of a well-formed instruction gives it back, every operand at every value. -/
def Obligations.DecodeOfEncode : Prop :=
  ∀ i : Instr, i.wellFormed = true → decode (encode i) = .ok i

/-- The decoder drops no byte of a buffer it takes for a message: encoding the message gives the buffer. -/
def Obligations.DecodedMessageReencodes : Prop :=
  ∀ (buf : List Byte) (i : Instr), decodeMessage buf = .ok i → encode i = .wire buf

/-- A few encodings written out from R60, R62 and R70 decode to the instructions they stand for. -/
def Obligations.WrittenOutWordsDecode : Prop :=
  decode (.wire [0x00]) = .ok (.nop []) ∧
  decode (.wire [0x01, 0x00, 0xFE]) = .ok (.reset 0x00 0xFE []) ∧
  decode (.wire [0x02, 0x01, 0xF9, 0x03]) = .ok (.setConfig 0x01 0xF9 [0x03]) ∧
  decode (.wire [0x06, 0x00, 0xF9]) = .ok (.ack 0x00 0xF9 []) ∧
  decode (.wire [0x09, 0x05, 0xF1]) = .error (.frame (.unknownFrameControl 0x09)) ∧
  decode (.host { code := 1, fc := 0, payload := [], sync := false, baud := 0, link := ⟨0, 0⟩ }) = .ok .close ∧
  decode (.host { code := 5, fc := 0, payload := [], sync := false, baud := 93750, link := ⟨0, 0⟩ }) =
    .ok (.setPhyConfig 93750) ∧
  decode (.host { code := 7, fc := 0, payload := [0x10], sync := true, baud := 0, link := ⟨0, 0⟩ }) =
    .ok (.sendTelegramSdr [0x10] true)

/-- FCS adds every byte but the one at offset 2 modulo 256 and inverts the sum; below three bytes it has no value.
Derived: R91 and R92 mark both as the spec's own inferences. -/
def Obligations.FcsIsComplementOfSum : Prop :=
  (∀ (a b c : Byte) (rest : List Byte),
    fcs (a :: b :: c :: rest) = some (BitVec.ofNat 8 (255 - (a.toNat + b.toNat + byteSum rest) % 256))) ∧
  (∀ buf : List Byte, buf.length < headerLen → fcs buf = none)

/-- A frame's checksum byte is right exactly when all its bytes add up to 255 modulo 256 (R93, marked derived). -/
def Obligations.FcsValidityLaw : Prop :=
  ∀ (a b c : Byte) (rest : List Byte),
    fcs (a :: b :: c :: rest) = some c ↔ byteSum (a :: b :: c :: rest) % 256 = 255

/-- R94: ordinal, length, checksum over the frame with a zero in its place, then the payload verbatim. -/
def Obligations.EncodeBuildsFrame : Prop :=
  ∀ f : Frame, f.payload.length ≤ payloadMax → ∃ ck,
    fcs ([f.fc.ordinal, BitVec.ofNat 8 f.payload.length, 0x00] ++ f.payload) = some ck ∧
    encodeFrame f = some ([f.fc.ordinal, BitVec.ofNat 8 f.payload.length, ck] ++ f.payload)

/-- R97, step by step: the first test that fails decides. -/
def Obligations.DecodeTestsInOrder : Prop :=
  ∀ buf : List Byte,
    decodeBuffer buf =
      if buf.length = 0 then .error .frameTooSmall
      else if buf.getD 0 0 = 0#8 then .ok { fc := .nop, payload := [] }
      else if buf.length < 3 then .error .frameTooSmall
      else if fcs buf ≠ some (buf.getD 2 0) then .error .checksumMismatch
      else if 7 < (buf.getD 0 0).toNat then .error (.unknownFrameControl (buf.getD 0 0))
      else if (buf.drop 3).length ≠ (buf.getD 1 0).toNat then .error .payloadLengthMismatch
      else .ok { fc := .ofBits ((buf.getD 0 0).setWidth 3), payload := buf.drop 3 }

/-- Decoding an encoded frame gives the frame back, and for NOP the empty NOP (R100, marked derived; C1). -/
def Obligations.CodecRoundTrip : Prop :=
  ∀ f : Frame, f.payload.length ≤ payloadMax →
    ∃ buf, encodeFrame f = some buf ∧ buf.length = headerLen + f.payload.length ∧
      decodeBuffer buf = .ok (if f.fc = .nop then { fc := .nop, payload := [] } else f)

/-- Every buffer DECODE accepts with a frame control other than NOP is what ENCODE writes (R101, marked derived). -/
def Obligations.AcceptedBufferReencodes : Prop :=
  ∀ (buf : List Byte) (f : Frame), decodeBuffer buf = .ok f → f.fc ≠ .nop → encodeFrame f = some buf

/-- One flipped bit in the first three bytes of a frame that is no NOP: accepted as NOP when byte 0 became 0, and
otherwise always ChecksumMismatch (R102, marked derived; C2). -/
def Obligations.SingleBitFlipIsDetected : Prop :=
  ∀ (f : Frame) (buf : List Byte) (offset bit : Nat),
    encodeFrame f = some buf → f.fc ≠ .nop → offset < headerLen → bit < 8 →
      decodeBuffer (flipBit buf offset bit) =
        if (flipBit buf offset bit).getD 0 0 = 0#8 then .ok { fc := .nop, payload := [] }
        else .error .checksumMismatch

/-- R67: byte 0 in 8..255 is refused as unknown when the checksum is right, as a checksum error when it is wrong, as
too small below three bytes; the engine cannot emit such a byte. -/
def Obligations.IllegalFrameControlRefused : Prop :=
  (∀ (b0 : Byte) (rest : List Byte), 8 ≤ b0.toNat →
    (rest.length < 2 → decodeBuffer (b0 :: rest) = .error .frameTooSmall) ∧
    (∀ (b1 b2 : Byte) (payload : List Byte), rest = b1 :: b2 :: payload →
      decodeBuffer (b0 :: rest) =
        .error (if fcs (b0 :: rest) = some b2 then .unknownFrameControl b0 else .checksumMismatch))) ∧
  (∀ (f : Frame) (buf : List Byte), encodeFrame f = some buf → (buf.getD 0 0).toNat ≤ 7)

/-- R68: the ten pairs, each way, and no other. -/
def Obligations.BaudTableIsExact : Prop :=
  ∀ (rate : BitVec 32) (ident : Byte),
    (baudLookup rate = some ident ↔
      (rate, ident) ∈ ([(9600, 0), (19200, 1), (45450, 2), (93750, 3), (187500, 4), (500000, 5), (1500000, 6),
        (3000000, 7), (6000000, 8), (12000000, 9)] : List (BitVec 32 × Byte))) ∧
    (baudRate ident = some rate ↔ baudLookup rate = some ident)

/-! ### Commands (10_state.md R13, 30_encoding.md R70, 42_phy_lifecycle.md R143, R144) -/

/-- OPEN on a closed link and CLOSE on an open one are accepted: operands and bookkeeping of R13, first state of
R70, nothing else. -/
def Obligations.LifecycleCommandsAccepted : Prop :=
  ∀ (s : State) (link : Link), s.seq = .idle →
    (s.life = .closed →
      exec (.openLink link) s =
        .next { s with
          cmdOp := .openLink, cmdLink := link, resKind := .pending, pollCnt := 0, seq := .openArm }) ∧
    (s.life = .opened →
      exec .close s = .next { s with cmdOp := .close, resKind := .pending, pollCnt := 0, seq := .close })

/-- The six transaction commands are accepted on an open link: operands and bookkeeping of R13, first state of R70,
nothing else. The bytes of `cmd_payload` past the payload are as before (the model's choice, log 13). A send accepted
while `outstanding = 1` marks the run and is performed all the same (R216; the form of the mark is log 8). -/
def Obligations.TransactionCommandsAccepted : Prop :=
  ∀ s : State, s.seq = .idle → s.life = .opened →
    exec .pollReply s = .next { s with cmdOp := .pollReply, resKind := .pending, pollCnt := 0, seq := .poll } ∧
    (∀ (fc : FrameControl) (p : List Byte) (sync : Bool), p.length ≤ payloadMax →
      exec (.sendMessage fc p sync) s =
        .next { s with
          cmdOp := .sendMessage, cmdFc := fc, cmdLen := BitVec.ofNat 8 p.length,
          cmdPayload := p ++ s.cmdPayload.drop p.length, cmdSync := sync,
          overlapped := s.overlapped || s.outstanding, resKind := .pending, pollCnt := 0, seq := .tx }) ∧
    exec .sendReset s =
      .next { s with
        cmdOp := .sendReset, cmdFc := .reset, cmdLen := 0, cmdSync := true,
        overlapped := s.overlapped || s.outstanding, resKind := .pending, pollCnt := 0, seq := .tx } ∧
    (∀ baud : BitVec 32,
      exec (.setPhyConfig baud) s =
        .next { s with
          cmdOp := .setPhyConfig, cmdBaud := baud,
          overlapped := s.overlapped || ((baudLookup baud).isSome && s.outstanding),
          resKind := .pending, pollCnt := 0, seq := .lookup }) ∧
    (∀ (p : List Byte) (sync : Bool), p.length ≤ payloadMax →
      exec (.sendTelegramSdn p sync) s =
        .next { s with
          cmdOp := .sendTelegramSdn, cmdFc := .pbSdnRequest, cmdLen := BitVec.ofNat 8 p.length,
          cmdPayload := p ++ s.cmdPayload.drop p.length, cmdSync := sync,
          overlapped := s.overlapped || s.outstanding, resKind := .pending, pollCnt := 0, seq := .tx }) ∧
    (∀ (p : List Byte) (sync : Bool), p.length ≤ payloadMax →
      exec (.sendTelegramSdr p sync) s =
        .next { s with
          cmdOp := .sendTelegramSdr, cmdFc := .pbSdrRequest, cmdLen := BitVec.ofNat 8 p.length,
          cmdPayload := p ++ s.cmdPayload.drop p.length, cmdSync := sync,
          overlapped := s.overlapped || s.outstanding, resKind := .pending, pollCnt := 0, seq := .tx })

/-- The gate's table (R144). What a rejection leaves in `res_info` is not stated (log 11). -/
def Obligations.GateTable : Prop :=
  ∀ (i : Instr) (op : CmdOp) (s : State),
    commandOf i = some op → i.wellFormed = true → s.seq = .idle →
      match op, s.life with
      | .openLink, .closed => ∃ t, exec i s = .next t ∧ t.seq = .openArm ∧ t.resKind = .pending
      | .openLink, .opened =>
        ∃ t, exec i s = .next t ∧
          { t with resInfo := s.resInfo } = { s with resKind := .rejected, resErr := .alreadyOpen }
      | .close, .closed => exec i s = .next { s with resKind := .ok }
      | .close, .opened => ∃ t, exec i s = .next t ∧ t.seq = .close ∧ t.resKind = .pending
      | op, .opened =>
        ∃ t, exec i s = .next t ∧ t.resKind = .pending ∧
          t.seq = if op = .pollReply then .poll else if op = .setPhyConfig then .lookup else .tx
      | _, .closed =>
        ∃ t, exec i s = .next t ∧
          { t with resInfo := s.resInfo } = { s with resKind := .rejected, resErr := .notOpen }

/-- R143: CLOSE on a closed link answers OK and does nothing else. -/
def Obligations.ClosedCloseIsHarmless : Prop :=
  ∀ s : State, s.seq = .idle → s.life = .closed → exec .close s = .next { s with resKind := .ok }

/-- A payload over 255 bytes is refused in every state (U2; the model's refusal, log 9). -/
def Obligations.OversizedPayloadRefused : Prop :=
  ∀ (s : State) (p : List Byte) (fc : FrameControl) (sync : Bool), payloadMax < p.length →
    exec (.sendMessage fc p sync) s = .refused .payloadTooLong ∧
    exec (.sendTelegramSdn p sync) s = .refused .payloadTooLong ∧
    exec (.sendTelegramSdr p sync) s = .refused .payloadTooLong

/-- A command presented to a busy engine is not accepted ("No command is accepted in any state but S_IDLE", R13),
and a wire message outside S_DECODE is not looked at; in the model both leave the state as it is (log 12). -/
def Obligations.NothingRunsOutOfTurn : Prop :=
  ∀ (i : Instr) (s : State), i.wellFormed = true →
    ((∃ op, commandOf i = some op) → s.seq ≠ .idle → exec i s = .next s) ∧
    (commandOf i = none → s.seq ≠ .decode → exec i s = .next s)

/-- R72: the four pseudo-commands are SEND_MESSAGE with fixed operands; only `cmd_op` tells them apart. -/
def Obligations.PseudoCommandsExpand : Prop :=
  ∀ s : State, s.seq = .idle → s.life = .opened →
    exec .sendReset s = mapNext ({ · with cmdOp := .sendReset }) (exec (.sendMessage .reset [] true) s) ∧
    (∀ (p : List Byte) (sync : Bool), p.length ≤ payloadMax →
      exec (.sendTelegramSdn p sync) s =
        mapNext ({ · with cmdOp := .sendTelegramSdn }) (exec (.sendMessage .pbSdnRequest p sync) s) ∧
      exec (.sendTelegramSdr p sync) s =
        mapNext ({ · with cmdOp := .sendTelegramSdr }) (exec (.sendMessage .pbSdrRequest p sync) s)) ∧
    (∀ rate : BitVec 32, baudLookup rate = none →
      ∃ t u, exec (.setPhyConfig rate) s = .next t ∧ engineStep t = .next u ∧
        u = { s with
          cmdOp := .setPhyConfig, cmdBaud := rate, pollCnt := 0,
          resKind := .error, resErr := .invalidBaudRate, resInfo := 0 }) ∧
    (∀ (rate : BitVec 32) (ident : Byte), baudLookup rate = some ident →
      ∃ t u, exec (.setPhyConfig rate) s = .next t ∧ engineStep t = .next u ∧
        exec (.sendMessage .setConfig [ident] true) s =
          .next { u with cmdOp := .sendMessage, cmdBaud := s.cmdBaud })

/-- Past acceptance the five sending commands run alike: `cmd_op` selects nothing among them (R72, R110). -/
def Obligations.SendingCommandsRunAlike : Prop :=
  ∀ (s : State) (op : CmdOp), s.cmdOp.sends = true → op.sends = true → s.seq ≠ .idle →
    engineStep { s with cmdOp := op } = mapNext ({ · with cmdOp := op }) (engineStep s)

/-! ### OPEN and CLOSE, state by state (42_phy_lifecycle.md) -/

/-- R131, R132, R133, R136, R137, R138: the steps of OPEN that cannot fail. The pauses change no state; whether one
enters the history is left open (log 17). -/
def Obligations.BringUpSteps : Prop :=
  ∀ s : State,
    (s.seq = .openArm →
      engineStep s = .next { s with
        sigArmed := true, readyLatch := false, outstanding := false, seq := .openRstLow,
        history := s.history ++ [.sigConfigure s.params.sigLineId .rising] }) ∧
    (s.seq = .openRstLow →
      engineStep s = .next { s with
        rstLine := .low, seq := .openHold, history := s.history ++ [.rstLow s.params.rstLineId] }) ∧
    (s.seq = .openHold →
      ∃ pause : List Call, (pause = [] ∨ pause = [.delay s.params.resetHold]) ∧
        engineStep s = .next { s with seq := .openXopen, history := s.history ++ pause }) ∧
    (s.seq = .openRstHigh →
      engineStep s = .next { s with
        rstLine := .high, seq := .openBoot, history := s.history ++ [.rstHigh s.params.rstLineId] }) ∧
    (s.seq = .openBoot →
      ∃ pause : List Call, (pause = [] ∨ pause = [.delay s.params.bootWait]) ∧
        engineStep s = .next { s with seq := .openSwReset, history := s.history ++ pause }) ∧
    (s.seq = .openSwReset →
      engineStep s = .next { s with cmdFc := .reset, cmdLen := 0, cmdSync := true, seq := .tx })

/-- R134: S_OPEN_XOPEN with each answer of the environment, which the model takes from its list of answers (R41;
log 4); without a recorded answer, one of the two happens. What a failure leaves in `res_info` is not stated (log 11), nor how many free values were drawn. -/
def Obligations.TransportOpenStep : Prop :=
  ∀ s : State, s.seq = .openXopen →
    ∃ (ok : Bool) (t : State),
      engineStep s = .next t ∧
      (∀ a rest, s.linkAnswers = a :: rest → ok = a ∧ t.linkAnswers = rest) ∧
      (s.linkAnswers = [] → t.linkAnswers = []) ∧
      (s.rstLine = .low → t.rstLine = .low) ∧
      { t with linkAnswers := s.linkAnswers, draws := s.draws } =
        if ok then
          { s with xportHeld := true, seq := .openXcfg, history := s.history ++ [.xportOpen s.cmdLink true] }
        else
          { s with
            resErr := .transportOpenError, resInfo := t.resInfo, seq := .openFail,
            history := s.history ++ [.xportOpen s.cmdLink false] }

/-- R135: S_OPEN_XCFG on a held transport with each answer of the environment, which the model takes from its list of
answers (R41; log 4); a failure closes the transport at once. What it leaves in `res_info` is not stated (log 11), nor how many free values were drawn. -/
def Obligations.TransportConfigStep : Prop :=
  ∀ s : State, s.seq = .openXcfg → s.xportHeld = true →
    ∃ (ok : Bool) (t : State),
      engineStep s = .next t ∧
      (∀ a rest, s.linkAnswers = a :: rest → ok = a ∧ t.linkAnswers = rest) ∧
      (s.linkAnswers = [] → t.linkAnswers = []) ∧
      { t with linkAnswers := s.linkAnswers, draws := s.draws } =
        if ok then
          { s with
            seq := .openRstHigh,
            history := s.history ++ [.xportConfigure 8 s.params.cpol s.params.cpha s.params.csPol
              s.params.bitOrder s.params.maxClockHz true] }
        else
          { s with
            xportHeld := false, resErr := .transportConfigError, resInfo := t.resInfo, seq := .openFail,
            history := s.history ++ [.xportConfigure 8 s.params.cpol s.params.cpha s.params.csPol
              s.params.bitOrder s.params.maxClockHz false, .xportClose] }

/-- R140: S_OPEN_FAIL gives back the transport if it is held, then the signal, and delivers the error; the reset
line and `life` are not touched. -/
def Obligations.OpenFailReleases : Prop :=
  ∀ s : State, s.seq = .openFail → s.sigArmed = true →
    engineStep s = .next { s with
      xportHeld := false, sigArmed := false, readyLatch := false, outstanding := false,
      resKind := .error, seq := .idle,
      history := s.history ++ (if s.xportHeld then [.xportClose] else []) ++
        [.sigRelease s.params.sigLineId] }

/-- R142: CLOSE on an open link, from the host's port to its result: two engine steps, the transport closed, then the
signal released; no frame is sent, nothing is read, the reset line stays as it is. The empty schedule says that the
companion takes no step meanwhile (log 2); the command comes from the host's list (log 14). -/
def Obligations.CloseCommandRuns : Prop :=
  ∀ (s : State) (port : CommandPort) (rest : List CommandPort),
    s.ready = true → s.schedule = [] → s.host = port :: rest → port.code = 1 →
      core.run 2 s = .next { s with
        host := rest, cmdOp := .close, pollCnt := 0,
        xportHeld := false, sigArmed := false, readyLatch := false, outstanding := false, life := .closed,
        resKind := .ok, history := s.history ++ [.xportClose, .sigRelease s.params.sigLineId] }

/-- R215 (marked derived): an OPEN whose transport opens and is configured and whose soft reset is answered by any
frame, NACK and NOP included (R139), ends in the launch state. The edge comes after `n` engine steps, at any turn once
the signal is armed: during bring-up (R218), right after the soft reset was written (`n = 10`), or after any number of
empty checks of an unbounded wait. The companion may have emitted the frame's bytes before OPEN, or emit any part of
them, or more, just before the edge. The turns are log 2. -/
def Obligations.OpenBringsLinkUp : Prop :=
  ∀ (s : State) (port : CommandPort) (rest : List CommandPort) (answers : List Bool)
    (f : Frame) (bytes more : List Byte) (n : Nat) (emitted : List (List Byte)),
    s.seq = .idle → s.life = .closed → s.rxbuf.length = frameMax →
    s.host = port :: rest → port.code = 0 → s.linkAnswers = true :: true :: answers →
    2 ≤ n → n ≤ 10 ∨ s.params.syncTimeoutPolls = none →
    s.schedule = List.replicate n .engine ++ emitted.map .emit ++ [.edge] →
    encodeFrame f = some bytes → s.readSide ++ emitted.flatten = bytes ++ more →
      ∃ t, core.run (max n 10 + emitted.length + (if f.payload = [] then 4 else 5)) s = .next t ∧
        t.seq = .idle ∧ t.life = .opened ∧ t.sigArmed = true ∧ t.xportHeld = true ∧ t.rstLine = .high ∧
        t.outstanding = false ∧ t.resKind = .ok ∧ t.readyLatch = false ∧
        t.readSide = more ∧ t.linkAnswers = answers ∧ t.host = rest ∧
        txLog t.history = txLog s.history ++ [[0x01, 0x00, 0xFE]]

/-! ### Transactions (43_phy_transactions.md) -/

/-- R159: S_LOOKUP with an unsupported and with a supported rate. -/
def Obligations.LookupStep : Prop :=
  ∀ s : State, s.seq = .lookup →
    (baudLookup s.cmdBaud = none →
      engineStep s = .next { s with
        resKind := .error, resErr := .invalidBaudRate, resInfo := 0, seq := .idle }) ∧
    (∀ ident, baudLookup s.cmdBaud = some ident →
      engineStep s = .next { s with
        cmdFc := .setConfig, cmdLen := 1, cmdPayload := ident :: s.cmdPayload.drop 1, cmdSync := true,
        seq := .tx })

/-- R155: S_TX writes the encoded frame in one call; asynchronous it ends the command, synchronous it starts the
wait; the latch is neither read nor cleared. -/
def Obligations.TransmitStep : Prop :=
  ∀ s : State, s.seq = .tx → s.xportHeld = true →
    ∃ bytes,
      encodeFrame { fc := s.cmdFc, payload := s.cmdPayload.take s.cmdLen.toNat } = some bytes ∧
      engineStep s = .next (
        if s.cmdSync then
          { s with
            txbuf := bytes ++ s.txbuf.drop bytes.length, txLen := bytes.length, outstanding := true,
            history := s.history ++ [.xportWrite bytes], pollCnt := 0, seq := .poll }
        else
          { s with
            txbuf := bytes ++ s.txbuf.drop bytes.length, txLen := bytes.length, outstanding := true,
            history := s.history ++ [.xportWrite bytes], resKind := .ok, seq := .idle })

/-- R151: S_POLL, branch by branch. Whether a pause between two polls enters the history is not stated (log 17). -/
def Obligations.PollStep : Prop :=
  ∀ s : State, s.seq = .poll → s.sigArmed = true →
    ∃ (t : State) (pause : List Call),
      engineStep s = .next t ∧ (pause = [] ∨ pause = [.delay s.params.pollGap]) ∧
      t.history = s.history ++ .sigCheck s.readyLatch :: pause ∧
      { t with history := s.history } =
        if s.readyLatch then { s with readyLatch := false, seq := .rxHdr }
        else if s.cmdOp = .pollReply then { s with resKind := .noReply, seq := .idle }
        else
          match s.params.syncTimeoutPolls with
          | none => s
          | some bound =>
            if s.pollCnt + 1 < bound then { s with pollCnt := s.pollCnt + 1 }
            else if s.cmdOp = .openLink then
              { s with pollCnt := s.pollCnt + 1, resErr := .timeout, resInfo := 0, seq := .openFail }
            else
              { s with
                pollCnt := s.pollCnt + 1, resKind := .error, resErr := .timeout, resInfo := 0, seq := .idle }

/-- R152, R153: the framer reads three bytes whatever they are, then exactly as many as the length byte says. The
bytes are the oldest on the read side while enough wait there (R46), and any bytes past them (R43). -/
def Obligations.ReceiveSteps : Prop :=
  ∀ s : State, s.xportHeld = true →
    (s.seq = .rxHdr →
      ∃ (bytes : List Byte) (t : State),
        bytes.length = 3 ∧ (3 ≤ s.readSide.length → bytes = s.readSide.take 3) ∧
        engineStep s = .next t ∧
        { t with draws := s.draws } = { s with
          readSide := s.readSide.drop 3, rxbuf := bytes ++ s.rxbuf.drop 3, rxLen := 3,
          history := s.history ++ [.xportRead bytes],
          seq := if bytes.getD 1 0 = 0 then .decode else .rxPay }) ∧
    (s.seq = .rxPay →
      ∃ (bytes : List Byte) (t : State),
        bytes.length = (s.rxbuf.getD 1 0).toNat ∧
        (bytes.length ≤ s.readSide.length → bytes = s.readSide.take bytes.length) ∧
        engineStep s = .next t ∧
        { t with draws := s.draws } = { s with
          readSide := s.readSide.drop bytes.length,
          rxbuf := s.rxbuf.take 3 ++ bytes ++ s.rxbuf.drop (3 + bytes.length), rxLen := 3 + bytes.length,
          history := s.history ++ [.xportRead bytes], seq := .decode })

/-- R154 with R139: what S_DECODE does is fixed by DECODE of the received buffer and by `cmd_op`, although the model
runs it through the instruction decoder and exec. -/
def Obligations.DecodeStepFollowsDecode : Prop :=
  ∀ s : State, s.seq = .decode →
    engineStep s = .next (
      match decodeBuffer (s.rxbuf.take s.rxLen) with
      | .ok f =>
        if s.cmdOp = .openLink then
          { s with outstanding := false, life := .opened, resKind := .ok, seq := .idle }
        else
          { s with
            outstanding := false, resKind := .reply, resFc := f.fc, resLen := BitVec.ofNat 8 f.payload.length,
            resPayload := f.payload ++ s.resPayload.drop f.payload.length, seq := .idle }
      | .error e =>
        if s.cmdOp = .openLink then
          { s with outstanding := false, resErr := e.kind, resInfo := e.info, seq := .openFail }
        else
          { s with outstanding := false, resKind := .error, resErr := e.kind, resInfo := e.info, seq := .idle })

/-- R111 to R118, completion: a well-formed message of each of the eight types that S_DECODE finds is delivered as the
reply, payload unmodified (for NOP empty), and in an OPEN opens the link whatever its type (R139). -/
def Obligations.WireMessagesDelivered : Prop :=
  ∀ (i : Instr) (f : Frame) (s : State), deliveredFrame i = some f → i.wellFormed = true → s.seq = .decode →
    exec i s = .next (
      if s.cmdOp = .openLink then
        { s with outstanding := false, life := .opened, resKind := .ok, seq := .idle }
      else
        { s with
          outstanding := false, resKind := .reply, resFc := f.fc, resLen := BitVec.ofNat 8 f.payload.length,
          resPayload := f.payload ++ s.resPayload.drop f.payload.length, seq := .idle })

/-- R184, R186, R189: a message other than NOP with a wrong checksum is ChecksumMismatch, and with a right one and a
wrong length byte PayloadLengthMismatch; the command ends with that error, or OPEN goes to its clean-up. -/
def Obligations.DamagedMessagesAreErrors : Prop :=
  ∀ (fc : FrameControl) (len ck : Byte) (p : List Byte) (s : State), fc ≠ .nop → s.seq = .decode →
    (fcs (fc.ordinal :: len :: ck :: p) ≠ some ck →
      exec (wireMessage fc len ck p) s = .next (
        if s.cmdOp = .openLink then
          { s with outstanding := false, resErr := .checksumMismatch, resInfo := 0, seq := .openFail }
        else
          { s with
            outstanding := false, resKind := .error, resErr := .checksumMismatch, resInfo := 0, seq := .idle })) ∧
    (fcs (fc.ordinal :: len :: ck :: p) = some ck → p.length ≠ len.toNat →
      exec (wireMessage fc len ck p) s = .next (
        if s.cmdOp = .openLink then
          { s with outstanding := false, resErr := .payloadLengthMismatch, resInfo := 0, seq := .openFail }
        else
          { s with
            outstanding := false, resKind := .error, resErr := .payloadLengthMismatch, resInfo := 0,
            seq := .idle }))

/-- R150: a POLL_REPLY that finds the latch set reads and returns the frame that waits, whatever the engine does with
its type (NOP comes back empty, R99), and consumes exactly its bytes. -/
def Obligations.PollReplyReturnsFrame : Prop :=
  ∀ (s : State) (port : CommandPort) (rest : List CommandPort) (f : Frame) (bytes more : List Byte),
    s.ready = true → s.schedule = [] → s.host = port :: rest → port.code = 2 →
    s.readyLatch = true → s.rxbuf.length = frameMax →
    encodeFrame f = some bytes → s.readSide = bytes ++ more →
      ∃ t g, core.run (if f.payload = [] then 4 else 5) s = .next t ∧
        g = (if f.fc = .nop then { fc := .nop, payload := [] } else f) ∧
        t.seq = .idle ∧ t.resKind = .reply ∧ t.resFc = g.fc ∧ t.resLen.toNat = g.payload.length ∧
        t.resPayload.take g.payload.length = g.payload ∧
        t.readSide = more ∧ t.readyLatch = false ∧ t.outstanding = false ∧ t.life = .opened ∧
        rxLog t.history = rxLog s.history ++ bytes.take 3 :: (if f.payload = [] then [] else [f.payload])

/-- R150, R166: a POLL_REPLY that finds the latch clear answers NO_REPLY in one pass of S_POLL and touches nothing
but the command and result registers. -/
def Obligations.PollWithoutEdge : Prop :=
  ∀ (s : State) (port : CommandPort) (rest : List CommandPort),
    s.ready = true → s.schedule = [] → s.host = port :: rest → port.code = 2 → s.readyLatch = false →
      core.run 2 s = .next { s with
        host := rest, cmdOp := .pollReply, pollCnt := 0, resKind := .noReply,
        history := s.history ++ [.sigCheck false] }

/-- R156, R65, R166: an asynchronous SEND_MESSAGE of any frame control and any payload of 0..255 bytes writes the
encoded frame once and answers OK; the latch and the read side are as before and `outstanding` is set. -/
def Obligations.AsyncSendWritesFrame : Prop :=
  ∀ (s : State) (port : CommandPort) (rest : List CommandPort),
    s.ready = true → s.schedule = [] → s.host = port :: rest → port.code = 3 → port.sync = false →
    port.payload.length ≤ payloadMax →
      ∃ bytes t, encodeFrame { fc := .ofBits port.fc, payload := port.payload } = some bytes ∧
        core.run 2 s = .next t ∧ t.seq = .idle ∧ t.resKind = .ok ∧ t.outstanding = true ∧
        t.history = s.history ++ [.xportWrite bytes] ∧ t.readyLatch = s.readyLatch ∧ t.readSide = s.readSide ∧
        t.life = .opened ∧ t.sigArmed = true ∧ t.xportHeld = true ∧ t.rstLine = s.rstLine ∧ t.host = rest ∧
        t.overlapped = (s.overlapped || s.outstanding)

/-- R156, R162, R163: a synchronous SEND_MESSAGE writes its frame and returns the first frame that arrives, of
whatever type (NOP comes back empty, R99). Which command that frame answers is not said (R163, R216). -/
def Obligations.SyncSendReturnsFirstFrame : Prop :=
  ∀ (s : State) (port : CommandPort) (rest : List CommandPort) (f : Frame) (bytes : List Byte),
    s.ready = true → s.host = port :: rest → port.code = 3 → port.sync = true →
    port.payload.length ≤ payloadMax → s.rxbuf.length = frameMax → s.readSide = [] →
    encodeFrame f = some bytes → s.schedule = [.engine, .engine, .emit bytes, .edge] →
      ∃ sent t g, encodeFrame { fc := .ofBits port.fc, payload := port.payload } = some sent ∧
        core.run (if f.payload = [] then 7 else 8) s = .next t ∧
        g = (if f.fc = .nop then { fc := .nop, payload := [] } else f) ∧
        t.seq = .idle ∧ t.resKind = .reply ∧ t.resFc = g.fc ∧ t.resLen.toNat = g.payload.length ∧
        t.resPayload.take g.payload.length = g.payload ∧ t.outstanding = false ∧ t.readSide = [] ∧
        txLog t.history = txLog s.history ++ [sent] ∧ t.overlapped = (s.overlapped || s.outstanding)

/-! ### The synchronous wait (R162, R165, R219) -/

/-- R162 (marked derived): if the edge comes before the N+1st pass of S_POLL, the wait makes exactly N empty checks
and one true one. The pause between polls is taken as zero, so that it leaves no mark in the history (log 17). -/
def Obligations.WaitChecksUntilEdge : Prop :=
  ∀ (n : Nat) (s : State),
    s.seq = .poll → s.sigArmed = true → s.readyLatch = false → s.cmdOp ≠ .pollReply →
    s.params.syncTimeoutPolls = none → s.params.pollGap = 0 →
    s.schedule = List.replicate n .engine ++ [.edge] →
      core.run (n + 2) s = .next { s with
        seq := .rxHdr, schedule := [],
        history := s.history ++ List.replicate n (.sigCheck false) ++ [.sigCheck true] }

/-- R219: without a bound and without an edge a synchronous wait never ends; after `k` steps it has made `k` empty
checks and nothing else but pauses (log 17). An empty schedule is a companion that stays silent (log 2). -/
def Obligations.SilentCompanionHangs : Prop :=
  ∀ (k : Nat) (s : State),
    s.seq = .poll → s.sigArmed = true → s.readyLatch = false → s.cmdOp ≠ .pollReply →
    s.params.syncTimeoutPolls = none → s.schedule = [] →
      ∃ calls : List Call,
        core.run k s = .next { s with history := s.history ++ calls } ∧ calls.count (.sigCheck false) = k ∧
        ∀ c ∈ calls, c = .sigCheck false ∨ c = .delay s.params.pollGap

/-- R165: with the bound T the T-th consecutive empty poll ends the wait with Timeout; `outstanding` and the frame
that was written stay; an OPEN goes to its clean-up. The calls made are the T empty checks and pauses (log 17). -/
def Obligations.BoundedWaitTimesOut : Prop :=
  ∀ (bound : Nat) (s : State),
    s.seq = .poll → s.sigArmed = true → s.readyLatch = false → s.cmdOp ≠ .pollReply →
    s.params.syncTimeoutPolls = some bound → 1 ≤ bound → s.pollCnt = 0 → s.schedule = [] →
      ∃ calls : List Call,
        calls.count (.sigCheck false) = bound ∧
        (∀ c ∈ calls, c = .sigCheck false ∨ c = .delay s.params.pollGap) ∧
        core.run bound s = .next (
          if s.cmdOp = .openLink then
            { s with
              pollCnt := bound, resErr := .timeout, resInfo := 0, seq := .openFail,
              history := s.history ++ calls }
          else
            { s with
              pollCnt := bound, resKind := .error, resErr := .timeout, resInfo := 0, seq := .idle,
              history := s.history ++ calls })

/-- R150: a POLL_REPLY never blocks. Each engine step of it brings it nearer its end, from at most four steps. -/
def Obligations.PollReplyNeverBlocks : Prop :=
  ∀ s : State, s.inv = true → s.cmdOp = .pollReply → s.seq ≠ .idle →
    1 ≤ pollReplyLeft s.seq ∧
    ∃ t, engineStep s = .next t ∧ pollReplyLeft t.seq < pollReplyLeft s.seq ∧
      t.cmdOp = .pollReply ∧ (pollReplyLeft t.seq = 0 → t.seq = .idle)

/-! ### The environment's turns (10_state.md R10, 60_exceptions.md R194, 70_reset_and_hazards.md R210) -/

/-- R194: the edge is latched while the signal is armed and lost otherwise; an edge that is already latched stays
one; it may come in every sequencer state. -/
def Obligations.ReadyEdgeLatches : Prop :=
  ∀ (s : State) (rest : List Turn), s.schedule = .edge :: rest →
    step s = .next { s with
      schedule := rest, readyLatch := if s.sigArmed then true else s.readyLatch }

/-- R20, R194: the latch holds an edge until a check, the configuration or the release of the signal clears it; only
those four sequencer states and power-on reset end it. -/
def Obligations.LatchHeldUntilCleared : Prop :=
  ∀ s t : State, step s = .next t → s.readyLatch = true → t.readyLatch = false →
    s.seq = .poll ∨ s.seq = .openArm ∨ s.seq = .openFail ∨ s.seq = .close ∨
    (∃ rest, s.schedule = .powerOn :: rest)

/-- R45, R46: bytes the companion emits go behind those that wait. U14: the environment's replacement of what
waits takes effect while the transport is not held and has none while it is held (log 22). -/
def Obligations.CompanionBytesQueue : Prop :=
  ∀ (s : State) (bytes : List Byte) (rest : List Turn),
    (s.schedule = .emit bytes :: rest →
      step s = .next { s with schedule := rest, readSide := s.readSide ++ bytes }) ∧
    (s.schedule = .restock bytes :: rest →
      step s = .next { s with
        schedule := rest, readSide := if s.xportHeld then s.readSide else bytes })

/-- R210, R28: power-on reset in any state gives the engine R28's values and makes no call; the host's commands, the
parameters, the environment and the mark of R216 are as before (the model's form of the event, log 23, log 8). -/
def Obligations.PowerOnAtAnyTime : Prop :=
  ∀ (s : State) (rest : List Turn), s.schedule = .powerOn :: rest →
    ∃ t, step s = .next t ∧
      t.seq = .idle ∧ t.life = .closed ∧ t.sigArmed = false ∧ t.xportHeld = false ∧ t.readyLatch = false ∧
      t.outstanding = false ∧ t.pollCnt = 0 ∧ t.resKind = .ok ∧
      t.history = s.history ∧ t.overlapped = s.overlapped ∧ t.params = s.params ∧ t.host = s.host ∧ t.schedule = rest ∧
      t.readSide = s.readSide ∧ t.linkAnswers = s.linkAnswers

/-- The values R28 gives after power-on reset; nothing is stated of those it leaves unspecified. -/
def Obligations.ResetValues : Prop :=
  State.reset.seq = .idle ∧ State.reset.life = .closed ∧ State.reset.sigArmed = false ∧
  State.reset.xportHeld = false ∧ State.reset.readyLatch = false ∧ State.reset.outstanding = false ∧
  State.reset.pollCnt = 0 ∧ State.reset.resKind = .ok ∧
  baudTable = [(9600, 0), (19200, 1), (45450, 2), (93750, 3), (187500, 4), (500000, 5), (1500000, 6),
    (3000000, 7), (6000000, 8), (12000000, 9)]

/-- R210: the engine does nothing until the host issues a command. -/
def Obligations.IdleEngineWaits : Prop :=
  ∀ s : State, s.seq = .idle → s.host = [] → engineStep s = .next s

/-! ### The step -/

/-- A step runs the decoded instruction. In S_IDLE it takes the host's first command, decodes it and runs it in the
state without that command; in S_DECODE it decodes the received bytes and runs the message; the engine's turn is
first taken from the schedule. -/
def Obligations.StepRunsDecoded : Prop :=
  ∀ (s : State) (i : Instr),
    (∀ (port : CommandPort) (rest : List CommandPort),
      s.seq = .idle → s.host = port :: rest → decode (.host port) = .ok i →
        engineStep s = exec i { s with host := rest }) ∧
    (s.seq = .decode → decode (.wire (s.rxbuf.take s.rxLen)) = .ok i → engineStep s = exec i s) ∧
    (s.schedule = [] → step s = engineStep s) ∧
    (∀ rest, s.schedule = .engine :: rest → step s = engineStep { s with schedule := rest })

/-- R13, R56: a running command is the one that was accepted. No engine step outside S_IDLE changes the command, its
rate, its link, the host's queue, the parameters, the turns to come or the mark of R216, and none but S_LOOKUP and
S_OPEN_SWRESET, which set up a frame of their own (R159, R138), changes the frame operands. -/
def Obligations.CommandSampledOnce : Prop :=
  ∀ s t : State, s.seq ≠ .idle → engineStep s = .next t →
    t.cmdOp = s.cmdOp ∧ t.cmdBaud = s.cmdBaud ∧ t.cmdLink = s.cmdLink ∧ t.host = s.host ∧ t.params = s.params ∧
    t.schedule = s.schedule ∧ t.overlapped = s.overlapped ∧
    (s.seq ≠ .lookup → s.seq ≠ .openSwReset →
      t.cmdFc = s.cmdFc ∧ t.cmdLen = s.cmdLen ∧ t.cmdPayload = s.cmdPayload ∧ t.cmdSync = s.cmdSync)

/-! ### Invariants and whole-machine rules -/

/-- Every step keeps the invariant of reachable states, whoever's turn it is. -/
def Obligations.InvariantKept : Prop :=
  ∀ s t : State, s.inv = true → step s = .next t → t.inv = true

/-- Reset meets the invariant, the discipline of reads and the balance of resources, and its run is not marked (log 8). -/
def Obligations.InvariantsAtReset : Prop :=
  State.reset.inv = true ∧ State.reset.readsChecked = true ∧ State.reset.balanced = true ∧
  State.reset.overlapped = false

/-- No primitive is called on a resource that is not held: from a state that meets the invariant no step faults
(R42, R143, R144, R196). -/
def Obligations.NoFaultFromInvariant : Prop :=
  ∀ (s : State) (r : Fault), s.inv = true → step s ≠ .fault r

/-- The one refusal of the machine is the payload contract's, and only for what the host presents (U2, log 9). -/
def Obligations.RefusedOnlyOversized : Prop :=
  ∀ (s : State) (r : Refusal), step s = .refused r →
    r = .payloadTooLong ∧ s.seq = .idle ∧
    ∃ port rest, s.host = port :: rest ∧ payloadMax < port.payload.length

/-- Q6, R223, R47: every XportRead comes directly after a SigCheck that returned 1 or directly after the header read
of its frame. -/
def Obligations.ReadsAreChecked : Prop :=
  ∀ s t : State, s.readsChecked = true → step s = .next t → t.readsChecked = true

/-- R140, R142, R19: no resource leaks. Acquisitions and releases stay in balance with what is held, but for a
power-on reset, which releases nothing (R210). -/
def Obligations.ResourcesBalanced : Prop :=
  ∀ s t : State, s.inv = true → s.balanced = true → (∀ rest, s.schedule ≠ .powerOn :: rest) →
    step s = .next t → t.balanced = true

/-- Q7: after S_OPEN_FAIL and after S_CLOSE nothing is held, latched or outstanding and the link is closed. -/
def Obligations.FailedOpenAndCloseReleaseAll : Prop :=
  ∀ s t : State, s.inv = true → s.seq = .openFail ∨ s.seq = .close → engineStep s = .next t →
    t.seq = .idle ∧ t.life = .closed ∧ t.sigArmed = false ∧ t.xportHeld = false ∧ t.readyLatch = false ∧
    t.outstanding = false ∧ t.rstLine = s.rstLine ∧
    (t.resKind = if s.seq = .openFail then .error else .ok)

/-- Q12, R18: the lifecycle state changes only at the end of a successful OPEN, in CLOSE, and by power-on reset. -/
def Obligations.LifeChangesOnly : Prop :=
  ∀ s t : State, step s = .next t → t.life ≠ s.life →
    (s.seq = .decode ∧ s.cmdOp = .openLink ∧ t.life = .opened ∧ t.resKind = .ok) ∨
    (s.seq = .close ∧ t.life = .closed ∧ t.resKind = .ok) ∨
    (∃ rest, s.schedule = .powerOn :: rest)

/-- R21: the reset line is written only by the two steps of OPEN that drive it, and by power-on reset. -/
def Obligations.ResetLineWrittenOnlyByOpen : Prop :=
  ∀ s t : State, step s = .next t → t.rstLine ≠ s.rstLine →
    (s.seq = .openRstLow ∧ t.rstLine = .low) ∨ (s.seq = .openRstHigh ∧ t.rstLine = .high) ∨
    (∃ rest, s.schedule = .powerOn :: rest)

/-- Q5, R164 (marked derived): the receive path never hands DECODE a buffer that is too small or of another length
than its header says. -/
def Obligations.ReceivePathErrors : Prop :=
  ∀ s : State, s.inv = true → s.seq = .decode →
    decodeBuffer (s.rxbuf.take s.rxLen) ≠ .error .frameTooSmall ∧
    decodeBuffer (s.rxbuf.take s.rxLen) ≠ .error .payloadLengthMismatch

/-- Q9, R162: only POLL_REPLY ends with NO_REPLY; a synchronous command never does. -/
def Obligations.NoReplyOnlyFromPollReply : Prop :=
  ∀ s t : State, step s = .next t → t.resKind = .noReply → s.resKind ≠ .noReply →
    s.cmdOp = .pollReply ∧ s.seq = .poll ∧ s.readyLatch = false
end

