-- ==== Sys2Proof/Laws/Buffers.lean ====
section
/-! SUPPORT. Laws of the buffer registers and of the byte streams: sizes, read after write, what a read returns. -/

namespace Sys2Proof.Machine

@[simp] theorem length_freeBytes (n k : Nat) : (Config.freeBytes n k).length = k := by
  induction k generalizing n with
  | zero => rfl
  | succ k ih => simp [Config.freeBytes, ih]

/-- A write inside a buffer keeps the buffer's size. -/
theorem length_overwrite {buf bs : List Byte} {off : Nat} (h : off + bs.length ≤ buf.length) :
    (overwrite buf off bs).length = buf.length := by
  simp [overwrite]; omega

/-- What was written from offset 0 on is read back. -/
@[simp] theorem take_overwrite_zero (buf bs : List Byte) : (overwrite buf 0 bs).take bs.length = bs := by
  simp [overwrite]

/-- A write from an offset on leaves the bytes before it. -/
theorem take_overwrite {buf bs : List Byte} {off : Nat} (h : off ≤ buf.length) :
    (overwrite buf off bs).take off = buf.take off := by
  simp [overwrite, h]

/-- A write from an offset on, read back together with what stands before it. -/
theorem take_overwrite_add {buf bs : List Byte} {off : Nat} (h : off ≤ buf.length) :
    (overwrite buf off bs).take (off + bs.length) = buf.take off ++ bs := by
  simp [overwrite, List.take_append, List.take_of_length_le, h]

/-- A write from an offset on leaves each byte before it. -/
theorem getD_overwrite_lt {buf bs : List Byte} {off i : Nat} (hi : i < off) (h : off ≤ buf.length) (d : Byte) :
    (overwrite buf off bs).getD i d = buf.getD i d := by
  have h1 : i < (buf.take off).length := by simp; omega
  simp [overwrite, List.getD_eq_getElem?_getD, List.getElem?_append_left h1, hi,
    List.append_assoc]

/-- A read returns exactly the number of bytes asked for (R43). -/
@[simp] theorem length_readBytes (n : Nat) (s : State) : (readBytes n s).length = n := by
  simp [readBytes]; omega

/-- While enough bytes wait, a read returns the oldest of them (R46). -/
theorem readBytes_of_le {n : Nat} {s : State} (h : n ≤ s.readSide.length) : readBytes n s = s.readSide.take n := by
  simp [readBytes, Nat.sub_eq_zero_of_le h, Config.freeBytes]

end Sys2Proof.Machine
end

