-- ==== Sys2Proof/Laws/Codec.lean ====
section
/-! SUPPORT. Laws of the codec: the numbering of frame controls, FCS as an 8-bit accumulator, what ENCODE answers,
and the buffer DECODE and the instruction decoder share. -/

namespace Sys2Proof

theorem FrameControl.ofBits_bits (fc : FrameControl) : FrameControl.ofBits fc.bits = fc := by
  cases fc <;> rfl

theorem FrameControl.bits_ofBits (b : BitVec 3) : (FrameControl.ofBits b).bits = b := by
  revert b; decide

theorem FrameControl.ofByte_ordinal (fc : FrameControl) : FrameControl.ofByte fc.ordinal = some fc := by
  cases fc <;> rfl

/-- Byte 0 determines the frame control: the ordinals are distinct. -/
theorem FrameControl.ordinal_of_ofByte {b : Byte} {fc : FrameControl} (h : FrameControl.ofByte b = some fc) :
    fc.ordinal = b := by
  revert h; revert fc; revert b; decide

/-- Only NOP has ordinal 0 (R62). -/
theorem FrameControl.ordinal_eq_zero {fc : FrameControl} : fc.ordinal = 0#8 ↔ fc = .nop := by
  cases fc <;> decide

theorem CmdOp.ofCode_code (op : CmdOp) : CmdOp.ofCode op.code = op := by cases op <;> rfl

/-- FCS as an 8-bit accumulator followed by an inverter, offset 2 left out (R91). -/
theorem fcs_cons (a b c : Byte) (rest : List Byte) :
    fcs (a :: b :: c :: rest) = some (~~~ BitVec.ofNat 8 (a.toNat + b.toNat + byteSum rest)) := by
  have h : byteSum (a :: b :: c :: rest) - c.toNat = a.toNat + b.toNat + byteSum rest := by
    simp [byteSum]; omega
  have inverter : ∀ x : Byte, (x ^^^ 255#8) &&& 255#8 = ~~~x := by decide
  simp only [fcs, h]
  rw [BitVec.ofNat_and, BitVec.ofNat_xor]
  exact congrArg some (inverter _)

/-- ENCODE answers for a payload in range: a header whose byte 2 is the FCS of the whole frame (R94, R95). -/
theorem encodeFrame_eq_some {f : Frame} (h : f.payload.length ≤ payloadMax) :
    ∃ ck, encodeFrame f = some (f.fc.ordinal :: BitVec.ofNat 8 f.payload.length :: ck :: f.payload) ∧
      fcs (f.fc.ordinal :: BitVec.ofNat 8 f.payload.length :: ck :: f.payload) = some ck := by
  refine ⟨~~~ BitVec.ofNat 8 (f.fc.ordinal.toNat + (BitVec.ofNat 8 f.payload.length).toNat + byteSum f.payload),
    ?_, fcs_cons ..⟩
  simp [encodeFrame, h, fcs_cons]

/-- Outside the payload contract ENCODE has no value (R96). -/
theorem encodeFrame_eq_none {f : Frame} (h : payloadMax < f.payload.length) : encodeFrame f = none := by
  simp [encodeFrame, Nat.not_le.mpr h]

/-- A frame ENCODE gave is at most 258 bytes and three longer than its payload (R94, R60). -/
theorem length_of_encodeFrame {f : Frame} {b : List Byte} (h : encodeFrame f = some b) :
    b.length = headerLen + f.payload.length ∧ b.length ≤ frameMax := by
  have hp : f.payload.length ≤ payloadMax := by
    by_contra hc
    simp [encodeFrame_eq_none (Nat.lt_of_not_le hc)] at h
  obtain ⟨ck, h', -⟩ := encodeFrame_eq_some hp
  rw [h'] at h
  cases h
  simp [payloadMax, headerLen, frameMax] at hp ⊢; omega

/-- A buffer decoded as a message is that message's encoding: the decoder drops no byte. -/
theorem decodeMessage_bytes {buf : List Byte} {i : Instr} (h : decodeMessage buf = .ok i) :
    buf ≠ [] ∧ ∃ bytes, encode i = .wire bytes ∧ bytes.length = buf.length := by
  match buf with
  | [] => simp [decodeMessage] at h
  | [b0] | [b0, _] =>
    by_cases h0 : b0 = 0#8
    · simp [decodeMessage, h0] at h; subst h; simp [encode]
    · simp [decodeMessage, h0] at h
  | b0 :: len :: ck :: p =>
    by_cases h0 : b0 = 0#8
    · simp [decodeMessage, h0] at h; subst h; simp [encode]
    · cases hf : FrameControl.ofByte b0 with
      | none => simp only [decodeMessage, h0, hf, if_false] at h; split at h <;> cases h
      | some fc =>
        simp only [decodeMessage, h0, hf, if_false] at h
        cases h
        cases fc <;> simp [wireMessage, encode]

end Sys2Proof
end

