-- ==== Sys2Proof/Laws/State.lean ====
section
/-! SUPPORT. One lemma per field per update of State: what each named update leaves in each field. -/

namespace Sys2Proof.Machine

section
variable (s : State)

/-! ### `goto` -/

@[simp] theorem goto_seq (q : Seq) : (s.goto q).seq = q := rfl
@[simp] theorem goto_life (q : Seq) : (s.goto q).life = s.life := rfl
@[simp] theorem goto_sigArmed (q : Seq) : (s.goto q).sigArmed = s.sigArmed := rfl
@[simp] theorem goto_xportHeld (q : Seq) : (s.goto q).xportHeld = s.xportHeld := rfl
@[simp] theorem goto_readyLatch (q : Seq) : (s.goto q).readyLatch = s.readyLatch := rfl
@[simp] theorem goto_rstLine (q : Seq) : (s.goto q).rstLine = s.rstLine := rfl
@[simp] theorem goto_outstanding (q : Seq) : (s.goto q).outstanding = s.outstanding := rfl
@[simp] theorem goto_pollCnt (q : Seq) : (s.goto q).pollCnt = s.pollCnt := rfl
@[simp] theorem goto_cmdOp (q : Seq) : (s.goto q).cmdOp = s.cmdOp := rfl
@[simp] theorem goto_cmdFc (q : Seq) : (s.goto q).cmdFc = s.cmdFc := rfl
@[simp] theorem goto_cmdLen (q : Seq) : (s.goto q).cmdLen = s.cmdLen := rfl
@[simp] theorem goto_cmdPayload (q : Seq) : (s.goto q).cmdPayload = s.cmdPayload := rfl
@[simp] theorem goto_cmdSync (q : Seq) : (s.goto q).cmdSync = s.cmdSync := rfl
@[simp] theorem goto_cmdBaud (q : Seq) : (s.goto q).cmdBaud = s.cmdBaud := rfl
@[simp] theorem goto_cmdLink (q : Seq) : (s.goto q).cmdLink = s.cmdLink := rfl
@[simp] theorem goto_txbuf (q : Seq) : (s.goto q).txbuf = s.txbuf := rfl
@[simp] theorem goto_txLen (q : Seq) : (s.goto q).txLen = s.txLen := rfl
@[simp] theorem goto_rxbuf (q : Seq) : (s.goto q).rxbuf = s.rxbuf := rfl
@[simp] theorem goto_rxLen (q : Seq) : (s.goto q).rxLen = s.rxLen := rfl
@[simp] theorem goto_resKind (q : Seq) : (s.goto q).resKind = s.resKind := rfl
@[simp] theorem goto_resFc (q : Seq) : (s.goto q).resFc = s.resFc := rfl
@[simp] theorem goto_resLen (q : Seq) : (s.goto q).resLen = s.resLen := rfl
@[simp] theorem goto_resPayload (q : Seq) : (s.goto q).resPayload = s.resPayload := rfl
@[simp] theorem goto_resErr (q : Seq) : (s.goto q).resErr = s.resErr := rfl
@[simp] theorem goto_resInfo (q : Seq) : (s.goto q).resInfo = s.resInfo := rfl
@[simp] theorem goto_params (q : Seq) : (s.goto q).params = s.params := rfl
@[simp] theorem goto_host (q : Seq) : (s.goto q).host = s.host := rfl
@[simp] theorem goto_schedule (q : Seq) : (s.goto q).schedule = s.schedule := rfl
@[simp] theorem goto_readSide (q : Seq) : (s.goto q).readSide = s.readSide := rfl
@[simp] theorem goto_linkAnswers (q : Seq) : (s.goto q).linkAnswers = s.linkAnswers := rfl
@[simp] theorem goto_history (q : Seq) : (s.goto q).history = s.history := rfl
@[simp] theorem goto_overlapped (q : Seq) : (s.goto q).overlapped = s.overlapped := rfl
@[simp] theorem goto_draws (q : Seq) : (s.goto q).draws = s.draws := rfl

/-! ### `record` -/

@[simp] theorem record_seq (c : Call) : (s.record c).seq = s.seq := rfl
@[simp] theorem record_life (c : Call) : (s.record c).life = s.life := rfl
@[simp] theorem record_sigArmed (c : Call) : (s.record c).sigArmed = s.sigArmed := rfl
@[simp] theorem record_xportHeld (c : Call) : (s.record c).xportHeld = s.xportHeld := rfl
@[simp] theorem record_readyLatch (c : Call) : (s.record c).readyLatch = s.readyLatch := rfl
@[simp] theorem record_rstLine (c : Call) : (s.record c).rstLine = s.rstLine := rfl
@[simp] theorem record_outstanding (c : Call) : (s.record c).outstanding = s.outstanding := rfl
@[simp] theorem record_pollCnt (c : Call) : (s.record c).pollCnt = s.pollCnt := rfl
@[simp] theorem record_cmdOp (c : Call) : (s.record c).cmdOp = s.cmdOp := rfl
@[simp] theorem record_cmdFc (c : Call) : (s.record c).cmdFc = s.cmdFc := rfl
@[simp] theorem record_cmdLen (c : Call) : (s.record c).cmdLen = s.cmdLen := rfl
@[simp] theorem record_cmdPayload (c : Call) : (s.record c).cmdPayload = s.cmdPayload := rfl
@[simp] theorem record_cmdSync (c : Call) : (s.record c).cmdSync = s.cmdSync := rfl
@[simp] theorem record_cmdBaud (c : Call) : (s.record c).cmdBaud = s.cmdBaud := rfl
@[simp] theorem record_cmdLink (c : Call) : (s.record c).cmdLink = s.cmdLink := rfl
@[simp] theorem record_txbuf (c : Call) : (s.record c).txbuf = s.txbuf := rfl
@[simp] theorem record_txLen (c : Call) : (s.record c).txLen = s.txLen := rfl
@[simp] theorem record_rxbuf (c : Call) : (s.record c).rxbuf = s.rxbuf := rfl
@[simp] theorem record_rxLen (c : Call) : (s.record c).rxLen = s.rxLen := rfl
@[simp] theorem record_resKind (c : Call) : (s.record c).resKind = s.resKind := rfl
@[simp] theorem record_resFc (c : Call) : (s.record c).resFc = s.resFc := rfl
@[simp] theorem record_resLen (c : Call) : (s.record c).resLen = s.resLen := rfl
@[simp] theorem record_resPayload (c : Call) : (s.record c).resPayload = s.resPayload := rfl
@[simp] theorem record_resErr (c : Call) : (s.record c).resErr = s.resErr := rfl
@[simp] theorem record_resInfo (c : Call) : (s.record c).resInfo = s.resInfo := rfl
@[simp] theorem record_params (c : Call) : (s.record c).params = s.params := rfl
@[simp] theorem record_host (c : Call) : (s.record c).host = s.host := rfl
@[simp] theorem record_schedule (c : Call) : (s.record c).schedule = s.schedule := rfl
@[simp] theorem record_readSide (c : Call) : (s.record c).readSide = s.readSide := rfl
@[simp] theorem record_linkAnswers (c : Call) : (s.record c).linkAnswers = s.linkAnswers := rfl
@[simp] theorem record_history (c : Call) : (s.record c).history = s.history ++ [c] := rfl
@[simp] theorem record_overlapped (c : Call) : (s.record c).overlapped = s.overlapped := rfl
@[simp] theorem record_draws (c : Call) : (s.record c).draws = s.draws := rfl

/-! ### `loadFrame` -/

@[simp] theorem loadFrame_seq (fc : FrameControl) (p : List Byte) (y : Bool) : (loadFrame fc p y s).seq = s.seq := rfl
@[simp] theorem loadFrame_life (fc : FrameControl) (p : List Byte) (y : Bool) : (loadFrame fc p y s).life = s.life := rfl
@[simp] theorem loadFrame_sigArmed (fc : FrameControl) (p : List Byte) (y : Bool) : (loadFrame fc p y s).sigArmed = s.sigArmed := rfl
@[simp] theorem loadFrame_xportHeld (fc : FrameControl) (p : List Byte) (y : Bool) : (loadFrame fc p y s).xportHeld = s.xportHeld := rfl
@[simp] theorem loadFrame_readyLatch (fc : FrameControl) (p : List Byte) (y : Bool) : (loadFrame fc p y s).readyLatch = s.readyLatch := rfl
@[simp] theorem loadFrame_rstLine (fc : FrameControl) (p : List Byte) (y : Bool) : (loadFrame fc p y s).rstLine = s.rstLine := rfl
@[simp] theorem loadFrame_outstanding (fc : FrameControl) (p : List Byte) (y : Bool) : (loadFrame fc p y s).outstanding = s.outstanding := rfl
@[simp] theorem loadFrame_pollCnt (fc : FrameControl) (p : List Byte) (y : Bool) : (loadFrame fc p y s).pollCnt = s.pollCnt := rfl
@[simp] theorem loadFrame_cmdOp (fc : FrameControl) (p : List Byte) (y : Bool) : (loadFrame fc p y s).cmdOp = s.cmdOp := rfl
@[simp] theorem loadFrame_cmdFc (fc : FrameControl) (p : List Byte) (y : Bool) : (loadFrame fc p y s).cmdFc = fc := rfl
@[simp] theorem loadFrame_cmdLen (fc : FrameControl) (p : List Byte) (y : Bool) : (loadFrame fc p y s).cmdLen = BitVec.ofNat 8 p.length := rfl
@[simp] theorem loadFrame_cmdPayload (fc : FrameControl) (p : List Byte) (y : Bool) : (loadFrame fc p y s).cmdPayload = overwrite s.cmdPayload 0 p := rfl
@[simp] theorem loadFrame_cmdSync (fc : FrameControl) (p : List Byte) (y : Bool) : (loadFrame fc p y s).cmdSync = y := rfl
@[simp] theorem loadFrame_cmdBaud (fc : FrameControl) (p : List Byte) (y : Bool) : (loadFrame fc p y s).cmdBaud = s.cmdBaud := rfl
@[simp] theorem loadFrame_cmdLink (fc : FrameControl) (p : List Byte) (y : Bool) : (loadFrame fc p y s).cmdLink = s.cmdLink := rfl
@[simp] theorem loadFrame_txbuf (fc : FrameControl) (p : List Byte) (y : Bool) : (loadFrame fc p y s).txbuf = s.txbuf := rfl
@[simp] theorem loadFrame_txLen (fc : FrameControl) (p : List Byte) (y : Bool) : (loadFrame fc p y s).txLen = s.txLen := rfl
@[simp] theorem loadFrame_rxbuf (fc : FrameControl) (p : List Byte) (y : Bool) : (loadFrame fc p y s).rxbuf = s.rxbuf := rfl
@[simp] theorem loadFrame_rxLen (fc : FrameControl) (p : List Byte) (y : Bool) : (loadFrame fc p y s).rxLen = s.rxLen := rfl
@[simp] theorem loadFrame_resKind (fc : FrameControl) (p : List Byte) (y : Bool) : (loadFrame fc p y s).resKind = s.resKind := rfl
@[simp] theorem loadFrame_resFc (fc : FrameControl) (p : List Byte) (y : Bool) : (loadFrame fc p y s).resFc = s.resFc := rfl
@[simp] theorem loadFrame_resLen (fc : FrameControl) (p : List Byte) (y : Bool) : (loadFrame fc p y s).resLen = s.resLen := rfl
@[simp] theorem loadFrame_resPayload (fc : FrameControl) (p : List Byte) (y : Bool) : (loadFrame fc p y s).resPayload = s.resPayload := rfl
@[simp] theorem loadFrame_resErr (fc : FrameControl) (p : List Byte) (y : Bool) : (loadFrame fc p y s).resErr = s.resErr := rfl
@[simp] theorem loadFrame_resInfo (fc : FrameControl) (p : List Byte) (y : Bool) : (loadFrame fc p y s).resInfo = s.resInfo := rfl
@[simp] theorem loadFrame_params (fc : FrameControl) (p : List Byte) (y : Bool) : (loadFrame fc p y s).params = s.params := rfl
@[simp] theorem loadFrame_host (fc : FrameControl) (p : List Byte) (y : Bool) : (loadFrame fc p y s).host = s.host := rfl
@[simp] theorem loadFrame_schedule (fc : FrameControl) (p : List Byte) (y : Bool) : (loadFrame fc p y s).schedule = s.schedule := rfl
@[simp] theorem loadFrame_readSide (fc : FrameControl) (p : List Byte) (y : Bool) : (loadFrame fc p y s).readSide = s.readSide := rfl
@[simp] theorem loadFrame_linkAnswers (fc : FrameControl) (p : List Byte) (y : Bool) : (loadFrame fc p y s).linkAnswers = s.linkAnswers := rfl
@[simp] theorem loadFrame_history (fc : FrameControl) (p : List Byte) (y : Bool) : (loadFrame fc p y s).history = s.history := rfl
@[simp] theorem loadFrame_overlapped (fc : FrameControl) (p : List Byte) (y : Bool) : (loadFrame fc p y s).overlapped = s.overlapped := rfl
@[simp] theorem loadFrame_draws (fc : FrameControl) (p : List Byte) (y : Bool) : (loadFrame fc p y s).draws = s.draws := rfl

/-! ### `noteSend` -/

@[simp] theorem noteSend_seq (b : Bool) : (noteSend b s).seq = s.seq := rfl
@[simp] theorem noteSend_life (b : Bool) : (noteSend b s).life = s.life := rfl
@[simp] theorem noteSend_sigArmed (b : Bool) : (noteSend b s).sigArmed = s.sigArmed := rfl
@[simp] theorem noteSend_xportHeld (b : Bool) : (noteSend b s).xportHeld = s.xportHeld := rfl
@[simp] theorem noteSend_readyLatch (b : Bool) : (noteSend b s).readyLatch = s.readyLatch := rfl
@[simp] theorem noteSend_rstLine (b : Bool) : (noteSend b s).rstLine = s.rstLine := rfl
@[simp] theorem noteSend_outstanding (b : Bool) : (noteSend b s).outstanding = s.outstanding := rfl
@[simp] theorem noteSend_pollCnt (b : Bool) : (noteSend b s).pollCnt = s.pollCnt := rfl
@[simp] theorem noteSend_cmdOp (b : Bool) : (noteSend b s).cmdOp = s.cmdOp := rfl
@[simp] theorem noteSend_cmdFc (b : Bool) : (noteSend b s).cmdFc = s.cmdFc := rfl
@[simp] theorem noteSend_cmdLen (b : Bool) : (noteSend b s).cmdLen = s.cmdLen := rfl
@[simp] theorem noteSend_cmdPayload (b : Bool) : (noteSend b s).cmdPayload = s.cmdPayload := rfl
@[simp] theorem noteSend_cmdSync (b : Bool) : (noteSend b s).cmdSync = s.cmdSync := rfl
@[simp] theorem noteSend_cmdBaud (b : Bool) : (noteSend b s).cmdBaud = s.cmdBaud := rfl
@[simp] theorem noteSend_cmdLink (b : Bool) : (noteSend b s).cmdLink = s.cmdLink := rfl
@[simp] theorem noteSend_txbuf (b : Bool) : (noteSend b s).txbuf = s.txbuf := rfl
@[simp] theorem noteSend_txLen (b : Bool) : (noteSend b s).txLen = s.txLen := rfl
@[simp] theorem noteSend_rxbuf (b : Bool) : (noteSend b s).rxbuf = s.rxbuf := rfl
@[simp] theorem noteSend_rxLen (b : Bool) : (noteSend b s).rxLen = s.rxLen := rfl
@[simp] theorem noteSend_resKind (b : Bool) : (noteSend b s).resKind = s.resKind := rfl
@[simp] theorem noteSend_resFc (b : Bool) : (noteSend b s).resFc = s.resFc := rfl
@[simp] theorem noteSend_resLen (b : Bool) : (noteSend b s).resLen = s.resLen := rfl
@[simp] theorem noteSend_resPayload (b : Bool) : (noteSend b s).resPayload = s.resPayload := rfl
@[simp] theorem noteSend_resErr (b : Bool) : (noteSend b s).resErr = s.resErr := rfl
@[simp] theorem noteSend_resInfo (b : Bool) : (noteSend b s).resInfo = s.resInfo := rfl
@[simp] theorem noteSend_params (b : Bool) : (noteSend b s).params = s.params := rfl
@[simp] theorem noteSend_host (b : Bool) : (noteSend b s).host = s.host := rfl
@[simp] theorem noteSend_schedule (b : Bool) : (noteSend b s).schedule = s.schedule := rfl
@[simp] theorem noteSend_readSide (b : Bool) : (noteSend b s).readSide = s.readSide := rfl
@[simp] theorem noteSend_linkAnswers (b : Bool) : (noteSend b s).linkAnswers = s.linkAnswers := rfl
@[simp] theorem noteSend_history (b : Bool) : (noteSend b s).history = s.history := rfl
@[simp] theorem noteSend_overlapped (b : Bool) : (noteSend b s).overlapped = (s.overlapped || (b && s.outstanding)) := rfl
@[simp] theorem noteSend_draws (b : Bool) : (noteSend b s).draws = s.draws := rfl

/-! ### `beginCommand` -/

@[simp] theorem beginCommand_seq (op : CmdOp) (q : Seq) : (beginCommand op q s).seq = q := rfl
@[simp] theorem beginCommand_life (op : CmdOp) (q : Seq) : (beginCommand op q s).life = s.life := rfl
@[simp] theorem beginCommand_sigArmed (op : CmdOp) (q : Seq) : (beginCommand op q s).sigArmed = s.sigArmed := rfl
@[simp] theorem beginCommand_xportHeld (op : CmdOp) (q : Seq) : (beginCommand op q s).xportHeld = s.xportHeld := rfl
@[simp] theorem beginCommand_readyLatch (op : CmdOp) (q : Seq) : (beginCommand op q s).readyLatch = s.readyLatch := rfl
@[simp] theorem beginCommand_rstLine (op : CmdOp) (q : Seq) : (beginCommand op q s).rstLine = s.rstLine := rfl
@[simp] theorem beginCommand_outstanding (op : CmdOp) (q : Seq) : (beginCommand op q s).outstanding = s.outstanding := rfl
@[simp] theorem beginCommand_pollCnt (op : CmdOp) (q : Seq) : (beginCommand op q s).pollCnt = 0 := rfl
@[simp] theorem beginCommand_cmdOp (op : CmdOp) (q : Seq) : (beginCommand op q s).cmdOp = op := rfl
@[simp] theorem beginCommand_cmdFc (op : CmdOp) (q : Seq) : (beginCommand op q s).cmdFc = s.cmdFc := rfl
@[simp] theorem beginCommand_cmdLen (op : CmdOp) (q : Seq) : (beginCommand op q s).cmdLen = s.cmdLen := rfl
@[simp] theorem beginCommand_cmdPayload (op : CmdOp) (q : Seq) : (beginCommand op q s).cmdPayload = s.cmdPayload := rfl
@[simp] theorem beginCommand_cmdSync (op : CmdOp) (q : Seq) : (beginCommand op q s).cmdSync = s.cmdSync := rfl
@[simp] theorem beginCommand_cmdBaud (op : CmdOp) (q : Seq) : (beginCommand op q s).cmdBaud = s.cmdBaud := rfl
@[simp] theorem beginCommand_cmdLink (op : CmdOp) (q : Seq) : (beginCommand op q s).cmdLink = s.cmdLink := rfl
@[simp] theorem beginCommand_txbuf (op : CmdOp) (q : Seq) : (beginCommand op q s).txbuf = s.txbuf := rfl
@[simp] theorem beginCommand_txLen (op : CmdOp) (q : Seq) : (beginCommand op q s).txLen = s.txLen := rfl
@[simp] theorem beginCommand_rxbuf (op : CmdOp) (q : Seq) : (beginCommand op q s).rxbuf = s.rxbuf := rfl
@[simp] theorem beginCommand_rxLen (op : CmdOp) (q : Seq) : (beginCommand op q s).rxLen = s.rxLen := rfl
@[simp] theorem beginCommand_resKind (op : CmdOp) (q : Seq) : (beginCommand op q s).resKind = .pending := rfl
@[simp] theorem beginCommand_resFc (op : CmdOp) (q : Seq) : (beginCommand op q s).resFc = s.resFc := rfl
@[simp] theorem beginCommand_resLen (op : CmdOp) (q : Seq) : (beginCommand op q s).resLen = s.resLen := rfl
@[simp] theorem beginCommand_resPayload (op : CmdOp) (q : Seq) : (beginCommand op q s).resPayload = s.resPayload := rfl
@[simp] theorem beginCommand_resErr (op : CmdOp) (q : Seq) : (beginCommand op q s).resErr = s.resErr := rfl
@[simp] theorem beginCommand_resInfo (op : CmdOp) (q : Seq) : (beginCommand op q s).resInfo = s.resInfo := rfl
@[simp] theorem beginCommand_params (op : CmdOp) (q : Seq) : (beginCommand op q s).params = s.params := rfl
@[simp] theorem beginCommand_host (op : CmdOp) (q : Seq) : (beginCommand op q s).host = s.host := rfl
@[simp] theorem beginCommand_schedule (op : CmdOp) (q : Seq) : (beginCommand op q s).schedule = s.schedule := rfl
@[simp] theorem beginCommand_readSide (op : CmdOp) (q : Seq) : (beginCommand op q s).readSide = s.readSide := rfl
@[simp] theorem beginCommand_linkAnswers (op : CmdOp) (q : Seq) : (beginCommand op q s).linkAnswers = s.linkAnswers := rfl
@[simp] theorem beginCommand_history (op : CmdOp) (q : Seq) : (beginCommand op q s).history = s.history := rfl
@[simp] theorem beginCommand_overlapped (op : CmdOp) (q : Seq) : (beginCommand op q s).overlapped = s.overlapped := rfl
@[simp] theorem beginCommand_draws (op : CmdOp) (q : Seq) : (beginCommand op q s).draws = s.draws := rfl

/-! ### `takeCommand` -/

@[simp] theorem takeCommand_seq : (takeCommand s).seq = s.seq := rfl
@[simp] theorem takeCommand_life : (takeCommand s).life = s.life := rfl
@[simp] theorem takeCommand_sigArmed : (takeCommand s).sigArmed = s.sigArmed := rfl
@[simp] theorem takeCommand_xportHeld : (takeCommand s).xportHeld = s.xportHeld := rfl
@[simp] theorem takeCommand_readyLatch : (takeCommand s).readyLatch = s.readyLatch := rfl
@[simp] theorem takeCommand_rstLine : (takeCommand s).rstLine = s.rstLine := rfl
@[simp] theorem takeCommand_outstanding : (takeCommand s).outstanding = s.outstanding := rfl
@[simp] theorem takeCommand_pollCnt : (takeCommand s).pollCnt = s.pollCnt := rfl
@[simp] theorem takeCommand_cmdOp : (takeCommand s).cmdOp = s.cmdOp := rfl
@[simp] theorem takeCommand_cmdFc : (takeCommand s).cmdFc = s.cmdFc := rfl
@[simp] theorem takeCommand_cmdLen : (takeCommand s).cmdLen = s.cmdLen := rfl
@[simp] theorem takeCommand_cmdPayload : (takeCommand s).cmdPayload = s.cmdPayload := rfl
@[simp] theorem takeCommand_cmdSync : (takeCommand s).cmdSync = s.cmdSync := rfl
@[simp] theorem takeCommand_cmdBaud : (takeCommand s).cmdBaud = s.cmdBaud := rfl
@[simp] theorem takeCommand_cmdLink : (takeCommand s).cmdLink = s.cmdLink := rfl
@[simp] theorem takeCommand_txbuf : (takeCommand s).txbuf = s.txbuf := rfl
@[simp] theorem takeCommand_txLen : (takeCommand s).txLen = s.txLen := rfl
@[simp] theorem takeCommand_rxbuf : (takeCommand s).rxbuf = s.rxbuf := rfl
@[simp] theorem takeCommand_rxLen : (takeCommand s).rxLen = s.rxLen := rfl
@[simp] theorem takeCommand_resKind : (takeCommand s).resKind = s.resKind := rfl
@[simp] theorem takeCommand_resFc : (takeCommand s).resFc = s.resFc := rfl
@[simp] theorem takeCommand_resLen : (takeCommand s).resLen = s.resLen := rfl
@[simp] theorem takeCommand_resPayload : (takeCommand s).resPayload = s.resPayload := rfl
@[simp] theorem takeCommand_resErr : (takeCommand s).resErr = s.resErr := rfl
@[simp] theorem takeCommand_resInfo : (takeCommand s).resInfo = s.resInfo := rfl
@[simp] theorem takeCommand_params : (takeCommand s).params = s.params := rfl
@[simp] theorem takeCommand_host : (takeCommand s).host = s.host.tail := rfl
@[simp] theorem takeCommand_schedule : (takeCommand s).schedule = s.schedule := rfl
@[simp] theorem takeCommand_readSide : (takeCommand s).readSide = s.readSide := rfl
@[simp] theorem takeCommand_linkAnswers : (takeCommand s).linkAnswers = s.linkAnswers := rfl
@[simp] theorem takeCommand_history : (takeCommand s).history = s.history := rfl
@[simp] theorem takeCommand_overlapped : (takeCommand s).overlapped = s.overlapped := rfl
@[simp] theorem takeCommand_draws : (takeCommand s).draws = s.draws := rfl

/-! ### `fillTx` -/

@[simp] theorem fillTx_seq (bs : List Byte) : (fillTx bs s).seq = s.seq := rfl
@[simp] theorem fillTx_life (bs : List Byte) : (fillTx bs s).life = s.life := rfl
@[simp] theorem fillTx_sigArmed (bs : List Byte) : (fillTx bs s).sigArmed = s.sigArmed := rfl
@[simp] theorem fillTx_xportHeld (bs : List Byte) : (fillTx bs s).xportHeld = s.xportHeld := rfl
@[simp] theorem fillTx_readyLatch (bs : List Byte) : (fillTx bs s).readyLatch = s.readyLatch := rfl
@[simp] theorem fillTx_rstLine (bs : List Byte) : (fillTx bs s).rstLine = s.rstLine := rfl
@[simp] theorem fillTx_outstanding (bs : List Byte) : (fillTx bs s).outstanding = s.outstanding := rfl
@[simp] theorem fillTx_pollCnt (bs : List Byte) : (fillTx bs s).pollCnt = s.pollCnt := rfl
@[simp] theorem fillTx_cmdOp (bs : List Byte) : (fillTx bs s).cmdOp = s.cmdOp := rfl
@[simp] theorem fillTx_cmdFc (bs : List Byte) : (fillTx bs s).cmdFc = s.cmdFc := rfl
@[simp] theorem fillTx_cmdLen (bs : List Byte) : (fillTx bs s).cmdLen = s.cmdLen := rfl
@[simp] theorem fillTx_cmdPayload (bs : List Byte) : (fillTx bs s).cmdPayload = s.cmdPayload := rfl
@[simp] theorem fillTx_cmdSync (bs : List Byte) : (fillTx bs s).cmdSync = s.cmdSync := rfl
@[simp] theorem fillTx_cmdBaud (bs : List Byte) : (fillTx bs s).cmdBaud = s.cmdBaud := rfl
@[simp] theorem fillTx_cmdLink (bs : List Byte) : (fillTx bs s).cmdLink = s.cmdLink := rfl
@[simp] theorem fillTx_txbuf (bs : List Byte) : (fillTx bs s).txbuf = overwrite s.txbuf 0 bs := rfl
@[simp] theorem fillTx_txLen (bs : List Byte) : (fillTx bs s).txLen = bs.length := rfl
@[simp] theorem fillTx_rxbuf (bs : List Byte) : (fillTx bs s).rxbuf = s.rxbuf := rfl
@[simp] theorem fillTx_rxLen (bs : List Byte) : (fillTx bs s).rxLen = s.rxLen := rfl
@[simp] theorem fillTx_resKind (bs : List Byte) : (fillTx bs s).resKind = s.resKind := rfl
@[simp] theorem fillTx_resFc (bs : List Byte) : (fillTx bs s).resFc = s.resFc := rfl
@[simp] theorem fillTx_resLen (bs : List Byte) : (fillTx bs s).resLen = s.resLen := rfl
@[simp] theorem fillTx_resPayload (bs : List Byte) : (fillTx bs s).resPayload = s.resPayload := rfl
@[simp] theorem fillTx_resErr (bs : List Byte) : (fillTx bs s).resErr = s.resErr := rfl
@[simp] theorem fillTx_resInfo (bs : List Byte) : (fillTx bs s).resInfo = s.resInfo := rfl
@[simp] theorem fillTx_params (bs : List Byte) : (fillTx bs s).params = s.params := rfl
@[simp] theorem fillTx_host (bs : List Byte) : (fillTx bs s).host = s.host := rfl
@[simp] theorem fillTx_schedule (bs : List Byte) : (fillTx bs s).schedule = s.schedule := rfl
@[simp] theorem fillTx_readSide (bs : List Byte) : (fillTx bs s).readSide = s.readSide := rfl
@[simp] theorem fillTx_linkAnswers (bs : List Byte) : (fillTx bs s).linkAnswers = s.linkAnswers := rfl
@[simp] theorem fillTx_history (bs : List Byte) : (fillTx bs s).history = s.history := rfl
@[simp] theorem fillTx_overlapped (bs : List Byte) : (fillTx bs s).overlapped = s.overlapped := rfl
@[simp] theorem fillTx_draws (bs : List Byte) : (fillTx bs s).draws = s.draws := rfl

/-! ### `failOpen` -/

@[simp] theorem failOpen_seq (e : ErrorKind) (i : Byte) : (failOpen e i s).seq = .openFail := rfl
@[simp] theorem failOpen_life (e : ErrorKind) (i : Byte) : (failOpen e i s).life = s.life := rfl
@[simp] theorem failOpen_sigArmed (e : ErrorKind) (i : Byte) : (failOpen e i s).sigArmed = s.sigArmed := rfl
@[simp] theorem failOpen_xportHeld (e : ErrorKind) (i : Byte) : (failOpen e i s).xportHeld = s.xportHeld := rfl
@[simp] theorem failOpen_readyLatch (e : ErrorKind) (i : Byte) : (failOpen e i s).readyLatch = s.readyLatch := rfl
@[simp] theorem failOpen_rstLine (e : ErrorKind) (i : Byte) : (failOpen e i s).rstLine = s.rstLine := rfl
@[simp] theorem failOpen_outstanding (e : ErrorKind) (i : Byte) : (failOpen e i s).outstanding = s.outstanding := rfl
@[simp] theorem failOpen_pollCnt (e : ErrorKind) (i : Byte) : (failOpen e i s).pollCnt = s.pollCnt := rfl
@[simp] theorem failOpen_cmdOp (e : ErrorKind) (i : Byte) : (failOpen e i s).cmdOp = s.cmdOp := rfl
@[simp] theorem failOpen_cmdFc (e : ErrorKind) (i : Byte) : (failOpen e i s).cmdFc = s.cmdFc := rfl
@[simp] theorem failOpen_cmdLen (e : ErrorKind) (i : Byte) : (failOpen e i s).cmdLen = s.cmdLen := rfl
@[simp] theorem failOpen_cmdPayload (e : ErrorKind) (i : Byte) : (failOpen e i s).cmdPayload = s.cmdPayload := rfl
@[simp] theorem failOpen_cmdSync (e : ErrorKind) (i : Byte) : (failOpen e i s).cmdSync = s.cmdSync := rfl
@[simp] theorem failOpen_cmdBaud (e : ErrorKind) (i : Byte) : (failOpen e i s).cmdBaud = s.cmdBaud := rfl
@[simp] theorem failOpen_cmdLink (e : ErrorKind) (i : Byte) : (failOpen e i s).cmdLink = s.cmdLink := rfl
@[simp] theorem failOpen_txbuf (e : ErrorKind) (i : Byte) : (failOpen e i s).txbuf = s.txbuf := rfl
@[simp] theorem failOpen_txLen (e : ErrorKind) (i : Byte) : (failOpen e i s).txLen = s.txLen := rfl
@[simp] theorem failOpen_rxbuf (e : ErrorKind) (i : Byte) : (failOpen e i s).rxbuf = s.rxbuf := rfl
@[simp] theorem failOpen_rxLen (e : ErrorKind) (i : Byte) : (failOpen e i s).rxLen = s.rxLen := rfl
@[simp] theorem failOpen_resKind (e : ErrorKind) (i : Byte) : (failOpen e i s).resKind = s.resKind := rfl
@[simp] theorem failOpen_resFc (e : ErrorKind) (i : Byte) : (failOpen e i s).resFc = s.resFc := rfl
@[simp] theorem failOpen_resLen (e : ErrorKind) (i : Byte) : (failOpen e i s).resLen = s.resLen := rfl
@[simp] theorem failOpen_resPayload (e : ErrorKind) (i : Byte) : (failOpen e i s).resPayload = s.resPayload := rfl
@[simp] theorem failOpen_resErr (e : ErrorKind) (i : Byte) : (failOpen e i s).resErr = e := rfl
@[simp] theorem failOpen_resInfo (e : ErrorKind) (i : Byte) : (failOpen e i s).resInfo = i := rfl
@[simp] theorem failOpen_params (e : ErrorKind) (i : Byte) : (failOpen e i s).params = s.params := rfl
@[simp] theorem failOpen_host (e : ErrorKind) (i : Byte) : (failOpen e i s).host = s.host := rfl
@[simp] theorem failOpen_schedule (e : ErrorKind) (i : Byte) : (failOpen e i s).schedule = s.schedule := rfl
@[simp] theorem failOpen_readSide (e : ErrorKind) (i : Byte) : (failOpen e i s).readSide = s.readSide := rfl
@[simp] theorem failOpen_linkAnswers (e : ErrorKind) (i : Byte) : (failOpen e i s).linkAnswers = s.linkAnswers := rfl
@[simp] theorem failOpen_history (e : ErrorKind) (i : Byte) : (failOpen e i s).history = s.history := rfl
@[simp] theorem failOpen_overlapped (e : ErrorKind) (i : Byte) : (failOpen e i s).overlapped = s.overlapped := rfl
@[simp] theorem failOpen_draws (e : ErrorKind) (i : Byte) : (failOpen e i s).draws = s.draws := rfl

/-! ### `rstLow` -/

@[simp] theorem rstLow_seq : (rstLow s).seq = s.seq := rfl
@[simp] theorem rstLow_life : (rstLow s).life = s.life := rfl
@[simp] theorem rstLow_sigArmed : (rstLow s).sigArmed = s.sigArmed := rfl
@[simp] theorem rstLow_xportHeld : (rstLow s).xportHeld = s.xportHeld := rfl
@[simp] theorem rstLow_readyLatch : (rstLow s).readyLatch = s.readyLatch := rfl
@[simp] theorem rstLow_rstLine : (rstLow s).rstLine = .low := rfl
@[simp] theorem rstLow_outstanding : (rstLow s).outstanding = s.outstanding := rfl
@[simp] theorem rstLow_pollCnt : (rstLow s).pollCnt = s.pollCnt := rfl
@[simp] theorem rstLow_cmdOp : (rstLow s).cmdOp = s.cmdOp := rfl
@[simp] theorem rstLow_cmdFc : (rstLow s).cmdFc = s.cmdFc := rfl
@[simp] theorem rstLow_cmdLen : (rstLow s).cmdLen = s.cmdLen := rfl
@[simp] theorem rstLow_cmdPayload : (rstLow s).cmdPayload = s.cmdPayload := rfl
@[simp] theorem rstLow_cmdSync : (rstLow s).cmdSync = s.cmdSync := rfl
@[simp] theorem rstLow_cmdBaud : (rstLow s).cmdBaud = s.cmdBaud := rfl
@[simp] theorem rstLow_cmdLink : (rstLow s).cmdLink = s.cmdLink := rfl
@[simp] theorem rstLow_txbuf : (rstLow s).txbuf = s.txbuf := rfl
@[simp] theorem rstLow_txLen : (rstLow s).txLen = s.txLen := rfl
@[simp] theorem rstLow_rxbuf : (rstLow s).rxbuf = s.rxbuf := rfl
@[simp] theorem rstLow_rxLen : (rstLow s).rxLen = s.rxLen := rfl
@[simp] theorem rstLow_resKind : (rstLow s).resKind = s.resKind := rfl
@[simp] theorem rstLow_resFc : (rstLow s).resFc = s.resFc := rfl
@[simp] theorem rstLow_resLen : (rstLow s).resLen = s.resLen := rfl
@[simp] theorem rstLow_resPayload : (rstLow s).resPayload = s.resPayload := rfl
@[simp] theorem rstLow_resErr : (rstLow s).resErr = s.resErr := rfl
@[simp] theorem rstLow_resInfo : (rstLow s).resInfo = s.resInfo := rfl
@[simp] theorem rstLow_params : (rstLow s).params = s.params := rfl
@[simp] theorem rstLow_host : (rstLow s).host = s.host := rfl
@[simp] theorem rstLow_schedule : (rstLow s).schedule = s.schedule := rfl
@[simp] theorem rstLow_readSide : (rstLow s).readSide = s.readSide := rfl
@[simp] theorem rstLow_linkAnswers : (rstLow s).linkAnswers = s.linkAnswers := rfl
@[simp] theorem rstLow_history : (rstLow s).history = s.history ++ [.rstLow s.params.rstLineId] := rfl
@[simp] theorem rstLow_overlapped : (rstLow s).overlapped = s.overlapped := rfl
@[simp] theorem rstLow_draws : (rstLow s).draws = s.draws := rfl

/-! ### `rstHigh` -/

@[simp] theorem rstHigh_seq : (rstHigh s).seq = s.seq := rfl
@[simp] theorem rstHigh_life : (rstHigh s).life = s.life := rfl
@[simp] theorem rstHigh_sigArmed : (rstHigh s).sigArmed = s.sigArmed := rfl
@[simp] theorem rstHigh_xportHeld : (rstHigh s).xportHeld = s.xportHeld := rfl
@[simp] theorem rstHigh_readyLatch : (rstHigh s).readyLatch = s.readyLatch := rfl
@[simp] theorem rstHigh_rstLine : (rstHigh s).rstLine = .high := rfl
@[simp] theorem rstHigh_outstanding : (rstHigh s).outstanding = s.outstanding := rfl
@[simp] theorem rstHigh_pollCnt : (rstHigh s).pollCnt = s.pollCnt := rfl
@[simp] theorem rstHigh_cmdOp : (rstHigh s).cmdOp = s.cmdOp := rfl
@[simp] theorem rstHigh_cmdFc : (rstHigh s).cmdFc = s.cmdFc := rfl
@[simp] theorem rstHigh_cmdLen : (rstHigh s).cmdLen = s.cmdLen := rfl
@[simp] theorem rstHigh_cmdPayload : (rstHigh s).cmdPayload = s.cmdPayload := rfl
@[simp] theorem rstHigh_cmdSync : (rstHigh s).cmdSync = s.cmdSync := rfl
@[simp] theorem rstHigh_cmdBaud : (rstHigh s).cmdBaud = s.cmdBaud := rfl
@[simp] theorem rstHigh_cmdLink : (rstHigh s).cmdLink = s.cmdLink := rfl
@[simp] theorem rstHigh_txbuf : (rstHigh s).txbuf = s.txbuf := rfl
@[simp] theorem rstHigh_txLen : (rstHigh s).txLen = s.txLen := rfl
@[simp] theorem rstHigh_rxbuf : (rstHigh s).rxbuf = s.rxbuf := rfl
@[simp] theorem rstHigh_rxLen : (rstHigh s).rxLen = s.rxLen := rfl
@[simp] theorem rstHigh_resKind : (rstHigh s).resKind = s.resKind := rfl
@[simp] theorem rstHigh_resFc : (rstHigh s).resFc = s.resFc := rfl
@[simp] theorem rstHigh_resLen : (rstHigh s).resLen = s.resLen := rfl
@[simp] theorem rstHigh_resPayload : (rstHigh s).resPayload = s.resPayload := rfl
@[simp] theorem rstHigh_resErr : (rstHigh s).resErr = s.resErr := rfl
@[simp] theorem rstHigh_resInfo : (rstHigh s).resInfo = s.resInfo := rfl
@[simp] theorem rstHigh_params : (rstHigh s).params = s.params := rfl
@[simp] theorem rstHigh_host : (rstHigh s).host = s.host := rfl
@[simp] theorem rstHigh_schedule : (rstHigh s).schedule = s.schedule := rfl
@[simp] theorem rstHigh_readSide : (rstHigh s).readSide = s.readSide := rfl
@[simp] theorem rstHigh_linkAnswers : (rstHigh s).linkAnswers = s.linkAnswers := rfl
@[simp] theorem rstHigh_history : (rstHigh s).history = s.history ++ [.rstHigh s.params.rstLineId] := rfl
@[simp] theorem rstHigh_overlapped : (rstHigh s).overlapped = s.overlapped := rfl
@[simp] theorem rstHigh_draws : (rstHigh s).draws = s.draws := rfl

/-! ### `sigConfigure` -/

@[simp] theorem sigConfigure_seq : (sigConfigure s).seq = s.seq := rfl
@[simp] theorem sigConfigure_life : (sigConfigure s).life = s.life := rfl
@[simp] theorem sigConfigure_sigArmed : (sigConfigure s).sigArmed = true := rfl
@[simp] theorem sigConfigure_xportHeld : (sigConfigure s).xportHeld = s.xportHeld := rfl
@[simp] theorem sigConfigure_readyLatch : (sigConfigure s).readyLatch = false := rfl
@[simp] theorem sigConfigure_rstLine : (sigConfigure s).rstLine = s.rstLine := rfl
@[simp] theorem sigConfigure_outstanding : (sigConfigure s).outstanding = s.outstanding := rfl
@[simp] theorem sigConfigure_pollCnt : (sigConfigure s).pollCnt = s.pollCnt := rfl
@[simp] theorem sigConfigure_cmdOp : (sigConfigure s).cmdOp = s.cmdOp := rfl
@[simp] theorem sigConfigure_cmdFc : (sigConfigure s).cmdFc = s.cmdFc := rfl
@[simp] theorem sigConfigure_cmdLen : (sigConfigure s).cmdLen = s.cmdLen := rfl
@[simp] theorem sigConfigure_cmdPayload : (sigConfigure s).cmdPayload = s.cmdPayload := rfl
@[simp] theorem sigConfigure_cmdSync : (sigConfigure s).cmdSync = s.cmdSync := rfl
@[simp] theorem sigConfigure_cmdBaud : (sigConfigure s).cmdBaud = s.cmdBaud := rfl
@[simp] theorem sigConfigure_cmdLink : (sigConfigure s).cmdLink = s.cmdLink := rfl
@[simp] theorem sigConfigure_txbuf : (sigConfigure s).txbuf = s.txbuf := rfl
@[simp] theorem sigConfigure_txLen : (sigConfigure s).txLen = s.txLen := rfl
@[simp] theorem sigConfigure_rxbuf : (sigConfigure s).rxbuf = s.rxbuf := rfl
@[simp] theorem sigConfigure_rxLen : (sigConfigure s).rxLen = s.rxLen := rfl
@[simp] theorem sigConfigure_resKind : (sigConfigure s).resKind = s.resKind := rfl
@[simp] theorem sigConfigure_resFc : (sigConfigure s).resFc = s.resFc := rfl
@[simp] theorem sigConfigure_resLen : (sigConfigure s).resLen = s.resLen := rfl
@[simp] theorem sigConfigure_resPayload : (sigConfigure s).resPayload = s.resPayload := rfl
@[simp] theorem sigConfigure_resErr : (sigConfigure s).resErr = s.resErr := rfl
@[simp] theorem sigConfigure_resInfo : (sigConfigure s).resInfo = s.resInfo := rfl
@[simp] theorem sigConfigure_params : (sigConfigure s).params = s.params := rfl
@[simp] theorem sigConfigure_host : (sigConfigure s).host = s.host := rfl
@[simp] theorem sigConfigure_schedule : (sigConfigure s).schedule = s.schedule := rfl
@[simp] theorem sigConfigure_readSide : (sigConfigure s).readSide = s.readSide := rfl
@[simp] theorem sigConfigure_linkAnswers : (sigConfigure s).linkAnswers = s.linkAnswers := rfl
@[simp] theorem sigConfigure_history : (sigConfigure s).history = s.history ++ [.sigConfigure s.params.sigLineId .rising] := rfl
@[simp] theorem sigConfigure_overlapped : (sigConfigure s).overlapped = s.overlapped := rfl
@[simp] theorem sigConfigure_draws : (sigConfigure s).draws = s.draws := rfl

/-! ### `complete` -/

@[simp] theorem complete_seq (r : CmdResult) : (complete r s).seq = .idle := rfl
@[simp] theorem complete_life (r : CmdResult) : (complete r s).life = s.life := by cases r <;> rfl
@[simp] theorem complete_sigArmed (r : CmdResult) : (complete r s).sigArmed = s.sigArmed := by cases r <;> rfl
@[simp] theorem complete_xportHeld (r : CmdResult) : (complete r s).xportHeld = s.xportHeld := by cases r <;> rfl
@[simp] theorem complete_readyLatch (r : CmdResult) : (complete r s).readyLatch = s.readyLatch := by cases r <;> rfl
@[simp] theorem complete_rstLine (r : CmdResult) : (complete r s).rstLine = s.rstLine := by cases r <;> rfl
@[simp] theorem complete_outstanding (r : CmdResult) : (complete r s).outstanding = s.outstanding := by cases r <;> rfl
@[simp] theorem complete_pollCnt (r : CmdResult) : (complete r s).pollCnt = s.pollCnt := by cases r <;> rfl
@[simp] theorem complete_cmdOp (r : CmdResult) : (complete r s).cmdOp = s.cmdOp := by cases r <;> rfl
@[simp] theorem complete_cmdFc (r : CmdResult) : (complete r s).cmdFc = s.cmdFc := by cases r <;> rfl
@[simp] theorem complete_cmdLen (r : CmdResult) : (complete r s).cmdLen = s.cmdLen := by cases r <;> rfl
@[simp] theorem complete_cmdPayload (r : CmdResult) : (complete r s).cmdPayload = s.cmdPayload := by cases r <;> rfl
@[simp] theorem complete_cmdSync (r : CmdResult) : (complete r s).cmdSync = s.cmdSync := by cases r <;> rfl
@[simp] theorem complete_cmdBaud (r : CmdResult) : (complete r s).cmdBaud = s.cmdBaud := by cases r <;> rfl
@[simp] theorem complete_cmdLink (r : CmdResult) : (complete r s).cmdLink = s.cmdLink := by cases r <;> rfl
@[simp] theorem complete_txbuf (r : CmdResult) : (complete r s).txbuf = s.txbuf := by cases r <;> rfl
@[simp] theorem complete_txLen (r : CmdResult) : (complete r s).txLen = s.txLen := by cases r <;> rfl
@[simp] theorem complete_rxbuf (r : CmdResult) : (complete r s).rxbuf = s.rxbuf := by cases r <;> rfl
@[simp] theorem complete_rxLen (r : CmdResult) : (complete r s).rxLen = s.rxLen := by cases r <;> rfl
@[simp] theorem complete_params (r : CmdResult) : (complete r s).params = s.params := by cases r <;> rfl
@[simp] theorem complete_host (r : CmdResult) : (complete r s).host = s.host := by cases r <;> rfl
@[simp] theorem complete_schedule (r : CmdResult) : (complete r s).schedule = s.schedule := by cases r <;> rfl
@[simp] theorem complete_readSide (r : CmdResult) : (complete r s).readSide = s.readSide := by cases r <;> rfl
@[simp] theorem complete_linkAnswers (r : CmdResult) : (complete r s).linkAnswers = s.linkAnswers := by cases r <;> rfl
@[simp] theorem complete_history (r : CmdResult) : (complete r s).history = s.history := by cases r <;> rfl
@[simp] theorem complete_overlapped (r : CmdResult) : (complete r s).overlapped = s.overlapped := by cases r <;> rfl
@[simp] theorem complete_draws (r : CmdResult) : (complete r s).draws = s.draws := by cases r <;> rfl

/-- No result is PENDING: the command is over (R17, R227). -/
@[simp] theorem complete_resKind_ne (r : CmdResult) : (complete r s).resKind ≠ .pending := by cases r <;> simp [complete, State.setResult]

end

end Sys2Proof.Machine
end

