-- ==== Sys2Proof/Laws/Ops.lean ====
section
/-! SUPPORT. For each shared operation what it can do: when it goes on and in which state, and when it stops. -/

namespace Sys2Proof.Machine

/-! ### The primitives -/

theorem xportWrite_held {s : State} (h : s.xportHeld = true) (v : List Byte) (k : State → Result) :
    xportWrite v s k = k (s.record (.xportWrite v)) := by simp [xportWrite, h]

theorem xportWrite_not_held {s : State} (h : s.xportHeld = false) (v : List Byte) (k : State → Result) :
    xportWrite v s k = .fault .transportNotHeld := by simp [xportWrite, h]

theorem xportRead_held {s : State} (h : s.xportHeld = true) (n : Nat) (k : List Byte → State → Result) :
    xportRead n s k = k (readBytes n s)
      ({ s with readSide := s.readSide.drop n, draws := s.draws + (n - s.readSide.length) }.record
        (.xportRead (readBytes n s))) := by simp [xportRead, h]

theorem xportRead_not_held {s : State} (h : s.xportHeld = false) (n : Nat) (k : List Byte → State → Result) :
    xportRead n s k = .fault .transportNotHeld := by simp [xportRead, h]

theorem xportClose_held {s : State} (h : s.xportHeld = true) (k : State → Result) :
    xportClose s k = k { s.record .xportClose with xportHeld := false } := by simp [xportClose, h]

theorem xportClose_not_held {s : State} (h : s.xportHeld = false) (k : State → Result) :
    xportClose s k = .fault .transportNotHeld := by simp [xportClose, h]

theorem sigCheck_armed {s : State} (h : s.sigArmed = true) (k : Bool → State → Result) :
    sigCheck s k = k s.readyLatch { s.record (.sigCheck s.readyLatch) with readyLatch := false } := by
  simp [sigCheck, h]

theorem sigCheck_not_armed {s : State} (h : s.sigArmed = false) (k : Bool → State → Result) :
    sigCheck s k = .fault .signalNotArmed := by simp [sigCheck, h]

theorem sigRelease_armed {s : State} (h : s.sigArmed = true) (k : State → Result) :
    sigRelease s k =
      k { s.record (.sigRelease s.params.sigLineId) with sigArmed := false, readyLatch := false } := by
  simp [sigRelease, h]

theorem sigRelease_not_armed {s : State} (h : s.sigArmed = false) (k : State → Result) :
    sigRelease s k = .fault .signalNotArmed := by simp [sigRelease, h]

/-- XportOpen and XportConfigure leave all of the state but the environment's answers and the history. -/
theorem dropAnswer_eq (s : State) : ∃ a d, dropAnswer s = { s with linkAnswers := a, draws := d } := by
  unfold dropAnswer
  split
  · exact ⟨s.linkAnswers, s.draws + 1, rfl⟩
  · exact ⟨_, s.draws, rfl⟩

/-- A pause leaves all of the state but the history (R201). -/
theorem delay_eq (t : Nat) (s : State) : ∃ h, delay t s = { s with history := h } := by
  by_cases ht : t = 0
  · exact ⟨s.history, by simp [delay, ht]⟩
  · exact ⟨_, by simp [delay, ht]; rfl⟩

/-! ### Errors -/

theorem raiseError_open {s : State} (h : s.cmdOp = .openLink) (e : ErrorKind) (i : Byte) :
    raiseError e i s = failOpen e i s := by simp [raiseError, h]

theorem raiseError_other {s : State} (h : s.cmdOp ≠ .openLink) (e : ErrorKind) (i : Byte) :
    raiseError e i s = complete (.error e i) s := by simp [raiseError, h]

/-! ### Acceptance -/

/-- Everything an acceptance can do. -/
theorem accept_cases (op : CmdOp) (load : State → State) (first : Seq) (s : State) :
    (s.seq = .idle ∧ gate op s.life = .accepted ∧
      accept op load first s = .next (beginCommand op first (load s))) ∨
    (s.seq = .idle ∧ gate op s.life = .nothingToDo ∧ accept op load first s = .next (complete .ok s)) ∨
    (s.seq = .idle ∧ ∃ reason, gate op s.life = .rejected reason ∧
      accept op load first s = .next (complete (.rejected reason) s)) ∨
    (s.seq ≠ .idle ∧ accept op load first s = .next s) := by
  by_cases hq : s.seq = .idle
  · cases hg : gate op s.life with
    | accepted => exact .inl ⟨hq, rfl, by simp [accept, hq, hg]⟩
    | nothingToDo => exact .inr (.inl ⟨hq, rfl, by simp [accept, hq, hg]⟩)
    | rejected reason => exact .inr (.inr (.inl ⟨hq, reason, rfl, by simp [accept, hq, hg]⟩))
  · exact .inr (.inr (.inr ⟨hq, by simp [accept, hq]⟩))

theorem accept_of_gate {op : CmdOp} {load : State → State} {first : Seq} {s : State}
    (hq : s.seq = .idle) (hg : gate op s.life = .accepted) :
    accept op load first s = .next (beginCommand op first (load s)) := by simp [accept, hq, hg]

theorem acceptPayload_of_le {op : CmdOp} {fc : FrameControl} {p : List Byte} {y : Bool} {s : State}
    (h : p.length ≤ payloadMax) : acceptPayload op fc p y s = accept op (fun s => loadFrame fc p y (noteSend true s)) .tx s := by
  simp [acceptPayload, h]

/-- The mark of R216 rises only when a send is noted while a reply is outstanding. -/
theorem noteSend_of_not_outstanding {s : State} (h : s.outstanding = false) (b : Bool) : noteSend b s = s := by
  have same : (s.overlapped || (b && s.outstanding)) = s.overlapped := by simp [h]
  unfold noteSend
  rw [same]

@[simp] theorem noteSend_false (s : State) : noteSend false s = s := by simp [noteSend]

/-! ### Frames and turns -/

theorem receiveFrame_decode {s : State} (h : s.seq = .decode) (bytes : List Byte) :
    receiveFrame bytes s = .next (endTransaction (decodeBuffer bytes) s) := by simp [receiveFrame, h]

/-- The end of a transaction goes back to S_IDLE, or to OPEN's clean-up state. -/
theorem endTransaction_seq (r : Except DecodeError Frame) (s : State) :
    (endTransaction r s).seq = .idle ∨ (s.cmdOp = .openLink ∧ (endTransaction r s).seq = .openFail) := by
  cases r with
  | ok f => left; simp only [endTransaction]; split <;> rfl
  | error e =>
    by_cases h : s.cmdOp = .openLink
    · exact .inr ⟨h, by simp [endTransaction, raiseError, h]⟩
    · exact .inl (by simp [endTransaction, raiseError, h])

/-- With an empty schedule a step is the engine's. -/
theorem step_of_schedule_nil {s : State} (h : s.schedule = []) : step s = engineStep s := by
  simp [step, takeTurn, h]

/-- With an engine turn at the head of the schedule a step is the engine's. -/
theorem step_of_schedule_engine {s : State} {rest : List Turn} (h : s.schedule = .engine :: rest) :
    step s = engineStep { s with schedule := rest } := by
  simp [step, takeTurn, h]

end Sys2Proof.Machine
end

