-- ==== Sys2Proof/Laws/PerInstr.lean ====
section
/-! SUPPORT. A statement per instruction: its encoding carries its row's opcode (R62, R70, R74). -/

namespace Sys2Proof.Laws.Opcode

/-- The value opcode_table.json gives the row: byte 0 of a FRAME row, the command code of a HOSTCMD row. -/
def rowValue : Instr → Nat
  | .nop _ => 0x00
  | .reset _ _ _ => 0x01
  | .setConfig _ _ _ => 0x02
  | .pbSdrRequest _ _ _ => 0x03
  | .pbSdrReply _ _ _ => 0x04
  | .pbSdnRequest _ _ _ => 0x05
  | .ack _ _ _ => 0x06
  | .nack _ _ _ => 0x07
  | .openLink _ => 0x0
  | .close => 0x1
  | .pollReply => 0x2
  | .sendMessage _ _ _ => 0x3
  | .sendReset => 0x4
  | .setPhyConfig _ => 0x5
  | .sendTelegramSdn _ _ => 0x6
  | .sendTelegramSdr _ _ => 0x7

/-- The encoding of `i` carries its row's opcode. -/
def Statement (i : Instr) : Prop :=
  match encode i with
  | .wire bytes => bytes.head?.map BitVec.toNat = some (rowValue i)
  | .host port => port.code.toNat = rowValue i

theorem nop (rest : List Byte) : Statement (.nop rest) := rfl
theorem reset (len checksum : Byte) (payload : List Byte) : Statement (.reset len checksum payload) := rfl
theorem setConfig (len checksum : Byte) (payload : List Byte) : Statement (.setConfig len checksum payload) := rfl
theorem pbSdrRequest (len checksum : Byte) (payload : List Byte) : Statement (.pbSdrRequest len checksum payload) :=
  rfl
theorem pbSdrReply (len checksum : Byte) (payload : List Byte) : Statement (.pbSdrReply len checksum payload) := rfl
theorem pbSdnRequest (len checksum : Byte) (payload : List Byte) : Statement (.pbSdnRequest len checksum payload) :=
  rfl
theorem ack (len checksum : Byte) (payload : List Byte) : Statement (.ack len checksum payload) := rfl
theorem nack (len checksum : Byte) (payload : List Byte) : Statement (.nack len checksum payload) := rfl
theorem openLink (link : Link) : Statement (.openLink link) := rfl
theorem close : Statement .close := rfl
theorem pollReply : Statement .pollReply := rfl
theorem sendMessage (fc : FrameControl) (payload : List Byte) (sync : Bool) :
    Statement (.sendMessage fc payload sync) := rfl
theorem sendReset : Statement .sendReset := rfl
theorem setPhyConfig (baud : BitVec 32) : Statement (.setPhyConfig baud) := rfl
theorem sendTelegramSdn (telegram : List Byte) (sync : Bool) : Statement (.sendTelegramSdn telegram sync) := rfl
theorem sendTelegramSdr (telegram : List Byte) (sync : Bool) : Statement (.sendTelegramSdr telegram sync) := rfl

end Sys2Proof.Laws.Opcode
end

