-- ==== Sys2Proof/Tests/Slice0.lean ====
section
/-! SUPPORT. The model's own tests. Expected values are the spec's: the vectors V-… of 95_test_vectors.md, the
worked examples of the rules, or a rule read by hand. First the well-formedness smoke, then decoding, the codec and
one step per instruction, then for every statement with hypotheses a state and operands that meet them. -/

namespace Sys2Proof.Tests

open Sys2Proof.Machine
-- One declaration after another: each concurrent kernel evaluation would cost memory of its own.
set_option Elab.async false

/-! ### Helpers -/

/-- `n` zero bytes. -/
def zeros (n : Nat) : List Byte := List.replicate n 0

/-- A small engine: the given sequencer state, command and lifecycle state; both resources held or neither. -/
def bench (seq : Seq) (op : CmdOp) (life : Life) (held : Bool) : State :=
  { State.reset with
    seq := seq, cmdOp := op, life := life, sigArmed := held, xportHeld := held, rstLine := .high
    cmdFc := .ack, cmdLen := 0, cmdPayload := zeros payloadMax, cmdSync := true, cmdBaud := 0
    txbuf := zeros frameMax, txLen := 3, rxbuf := zeros frameMax, rxLen := 3
    resKind := if seq = .idle then .ok else .pending
    resFc := .nop, resLen := 0, resPayload := zeros payloadMax, resErr := .timeout, resInfo := 0 }

/-- An idle engine on a closed link. -/
def shut : State := bench .idle .close .closed false

/-- An idle engine on an open link: the launch state of R215. -/
def ready : State := bench .idle .openLink .opened true

/-- An engine that decodes the given frame for POLL_REPLY. -/
def decoding (bytes : List Byte) : State :=
  { bench .decode .pollReply .opened true with
    rxbuf := bytes ++ zeros (frameMax - bytes.length), rxLen := bytes.length }

/-- An engine in OPEN, at the given sequencer state. -/
def opening (seq : Seq) (armed held : Bool) (level : Level) : State :=
  { bench seq .openLink .closed false with sigArmed := armed, xportHeld := held, rstLine := level }

/-- A command at the host's port. -/
def port (code : BitVec 3) (fc : BitVec 3) (payload : List Byte) (sync : Bool) (baud : BitVec 32) : CommandPort where
  code := code
  fc := fc
  payload := payload
  sync := sync
  baud := baud
  link := { busId := 0, deviceId := 1 }

/-- The next state of an outcome, if there is one. -/
def nextOf : Result → Option State
  | .next s => some s
  | .fault _ => none
  | .refused _ => none

/-- The refusal of an outcome, if it is one. -/
def refusalOf : Result → Option Refusal
  | .next _ => none
  | .fault _ => none
  | .refused r => some r

/-- What an accepted command leaves to look at. -/
def accepted (r : Result) : Option (Seq × CmdOp × ResKind × List Call) :=
  (nextOf r).map fun t => (t.seq, t.cmdOp, t.resKind, t.history)

/-- The frame a next state returns as its reply, read from the result registers. -/
def reply (r : Result) : Option (ResKind × FrameControl × List Byte) :=
  (nextOf r).map fun t => (t.resKind, t.resFc, t.resPayload.take t.resLen.toNat)

/-- The error a next state returns. -/
def failure (r : Result) : Option (ResKind × ErrorKind × Byte) :=
  (nextOf r).map fun t => (t.resKind, t.resErr, t.resInfo)

/-- A decoded buffer as an option. -/
def frameOf (r : Except DecodeError Frame) : Option Frame :=
  match r with
  | .ok f => some f
  | .error _ => none

/-- The error of a rejected buffer. -/
def errorOf (r : Except DecodeError Frame) : Option DecodeError :=
  match r with
  | .ok _ => none
  | .error e => some e

/-- A decoded instruction as an option. -/
def instrOf (r : Except Reject Instr) : Option Instr :=
  match r with
  | .ok i => some i
  | .error _ => none

/-! ### Well-formedness refuses an ill-formed term of each check (R60, R96, R66) -/

theorem test_wf_length : (Instr.ack 0x01 0xF8 []).wellFormed = false := by decide
theorem test_wf_checksum : (Instr.ack 0x00 0xFA []).wellFormed = false := by decide
theorem test_wf_frame : (Instr.ack 0x00 0xF9 []).wellFormed = true := by decide
theorem test_wf_nop_length : (Instr.nop (zeros 258)).wellFormed = false := by decide +kernel
theorem test_wf_nop_longest : (Instr.nop (zeros 257)).wellFormed = true := by decide +kernel
theorem test_wf_message_length : (Instr.sendMessage .ack (zeros 256) true).wellFormed = false := by decide +kernel
theorem test_wf_sdn_length : (Instr.sendTelegramSdn (zeros 256) true).wellFormed = false := by decide +kernel
theorem test_wf_sdr_length : (Instr.sendTelegramSdr (zeros 256) true).wellFormed = false := by decide +kernel
theorem test_wf_sdr_longest : (Instr.sendTelegramSdr (zeros 255) true).wellFormed = true := by decide +kernel

/-! ### Decoding, every constructor from a word written out from R60, R62 and R70 -/

theorem test_decode_nop : instrOf (decode (.wire [0x00])) = some (.nop []) := by decide
theorem test_decode_reset : instrOf (decode (.wire [0x01, 0x00, 0xFE])) = some (.reset 0x00 0xFE []) := by decide
theorem test_decode_set_config :
    instrOf (decode (.wire [0x02, 0x01, 0xF9, 0x03])) = some (.setConfig 0x01 0xF9 [0x03]) := by decide
theorem test_decode_sdr_request :
    instrOf (decode (.wire [0x03, 0x01, 0xFF, 0xFC])) = some (.pbSdrRequest 0x01 0xFF [0xFC]) := by decide
theorem test_decode_sdr_reply :
    instrOf (decode (.wire [0x04, 0x00, 0xFB])) = some (.pbSdrReply 0x00 0xFB []) := by decide
theorem test_decode_sdn_request :
    instrOf (decode (.wire [0x05, 0x04, 0xBE, 0xDE, 0xAD, 0xBE, 0xEF])) =
      some (.pbSdnRequest 0x04 0xBE [0xDE, 0xAD, 0xBE, 0xEF]) := by decide
theorem test_decode_ack : instrOf (decode (.wire [0x06, 0x00, 0xF9])) = some (.ack 0x00 0xF9 []) := by decide
theorem test_decode_nack : instrOf (decode (.wire [0x07, 0x00, 0xF8])) = some (.nack 0x00 0xF8 []) := by decide
theorem test_decode_open :
    instrOf (decode (.host (port 0 0 [] false 0))) = some (.openLink { busId := 0, deviceId := 1 }) := by decide
theorem test_decode_close : instrOf (decode (.host (port 1 0 [] false 0))) = some .close := by decide
theorem test_decode_poll_reply : instrOf (decode (.host (port 2 0 [] false 0))) = some .pollReply := by decide
theorem test_decode_send_message :
    instrOf (decode (.host (port 3 6 [0x01] true 0))) = some (.sendMessage .ack [0x01] true) := by decide
theorem test_decode_send_reset : instrOf (decode (.host (port 4 0 [] false 0))) = some .sendReset := by decide
theorem test_decode_set_phy_config :
    instrOf (decode (.host (port 5 0 [] false 93750))) = some (.setPhyConfig 93750) := by decide
theorem test_decode_telegram_sdn :
    instrOf (decode (.host (port 6 0 [0xDE] false 0))) = some (.sendTelegramSdn [0xDE] false) := by decide
theorem test_decode_telegram_sdr :
    instrOf (decode (.host (port 7 0 [0x10] true 0))) = some (.sendTelegramSdr [0x10] true) := by decide
/-- The words of both formats: below one byte a command code, from one byte on a frame (log 15). -/
theorem test_table_words :
    decodeTableWord 3 4 = some .sendReset ∧ decodeTableWord 8 4 = some (.pbSdrReply 0 0 []) ∧
    decodeTableWord 8 8 = none ∧ decodeTableWord 24 0xF90006 = some (.ack 0x00 0xF9 []) := by decide

/-! ### The codec (V-F, V-E, V-D, V-C of 95_test_vectors.md) -/

/-- V-F01, V-F02, V-F05, V-F06, V-F07, V-F08. -/
theorem test_fcs :
    fcs [0x00, 0x00, 0x00] = some 0xFF ∧ fcs [0x00, 0x00, 0xAB] = some 0xFF ∧ fcs [0x7F, 0x80, 0x55] = some 0x00 ∧
    fcs [0x80, 0x80, 0x00] = some 0xFF ∧ fcs [0xFF, 0xFF, 0x00] = some 0x01 ∧
    fcs [0xFF, 0xFF, 0x00, 0xFF] = some 0x02 := by decide
/-- V-E03, V-E05, V-E16. -/
theorem test_encode :
    encodeFrame { fc := .setConfig, payload := [0x03] } = some [0x02, 0x01, 0xF9, 0x03] ∧
    encodeFrame { fc := .pbSdrReply, payload := [0x10, 0x01, 0x02, 0x00, 0x03, 0x16] } =
      some [0x04, 0x06, 0xC9, 0x10, 0x01, 0x02, 0x00, 0x03, 0x16] ∧
    encodeFrame { fc := .nop, payload := [0x01, 0x02] } = some [0x00, 0x02, 0xFA, 0x01, 0x02] := by decide
/-- V-D02, V-D04, V-D17. -/
theorem test_decode_buffer :
    frameOf (decodeBuffer [0x00]) = some { fc := .nop, payload := [] } ∧
    frameOf (decodeBuffer [0x00, 0x05, 0x12, 0x01, 0x02]) = some { fc := .nop, payload := [] } ∧
    frameOf (decodeBuffer [0x02, 0x01, 0xF9, 0x03]) = some { fc := .setConfig, payload := [0x03] } := by decide
/-- V-D01, V-D07, V-D10, V-D11, V-D13, V-D14, V-D16, V-D19. -/
theorem test_decode_errors :
    errorOf (decodeBuffer []) = some .frameTooSmall ∧ errorOf (decodeBuffer [0x09]) = some .frameTooSmall ∧
    errorOf (decodeBuffer [0x01, 0x00, 0xFF]) = some .checksumMismatch ∧
    errorOf (decodeBuffer [0x01, 0x00, 0xFE, 0x00]) = some .payloadLengthMismatch ∧
    errorOf (decodeBuffer [0x09, 0x05, 0xF1]) = some (.unknownFrameControl 9) ∧
    errorOf (decodeBuffer [0x09, 0x05, 0x00]) = some .checksumMismatch ∧
    errorOf (decodeBuffer [0xFF, 0x00, 0x00]) = some (.unknownFrameControl 255) ∧
    errorOf (decodeBuffer [0x02, 0x02, 0xF8, 0x03]) = some .payloadLengthMismatch := by decide
/-- V-C01, V-C05, V-C07. -/
theorem test_flip :
    flipBit [0x01, 0x00, 0xFE] 0 0 = [0x00, 0x00, 0xFE] ∧ flipBit [0x06, 0x00, 0xF9] 0 3 = [0x0E, 0x00, 0xF9] ∧
    flipBit [0x02, 0x01, 0xF9, 0x03] 2 7 = [0x02, 0x01, 0x79, 0x03] := by decide
/-- V-B01, V-B04, V-B10, V-B13, V-B15. -/
theorem test_baud :
    baudLookup 9600 = some 0 ∧ baudLookup 93750 = some 3 ∧ baudLookup 12000000 = some 9 ∧
    baudLookup 9601 = none ∧ baudLookup 3 = none := by decide

/-! ### One step: wire messages in S_DECODE (R111 to R118) -/

/-- V-D05: the payload of a NOP is dropped. -/
theorem test_run_nop :
    reply (step (decoding [0x00, 0x02, 0xFA, 0x01, 0x02])) = some (.reply, .nop, []) := by decide +kernel
/-- V-T07: a wrong checksum ends the command. -/
theorem test_run_reset :
    failure (step (decoding [0x01, 0x00, 0xFF])) = some (.error, .checksumMismatch, 0) := by decide +kernel
/-- V-D17. -/
theorem test_run_set_config :
    reply (step (decoding [0x02, 0x01, 0xF9, 0x03])) = some (.reply, .setConfig, [0x03]) := by decide +kernel
/-- V-E11. -/
theorem test_run_sdr_request :
    reply (step (decoding [0x03, 0x01, 0xFF, 0xFC])) = some (.reply, .pbSdrRequest, [0xFC]) := by decide +kernel
/-- V-D25. -/
theorem test_run_sdr_reply :
    reply (step (decoding [0x04, 0x06, 0xC9, 0x10, 0x01, 0x02, 0x00, 0x03, 0x16])) =
      some (.reply, .pbSdrReply, [0x10, 0x01, 0x02, 0x00, 0x03, 0x16]) := by decide +kernel
/-- V-E06. -/
theorem test_run_sdn_request :
    reply (step (decoding [0x05, 0x04, 0xBE, 0xDE, 0xAD, 0xBE, 0xEF])) =
      some (.reply, .pbSdnRequest, [0xDE, 0xAD, 0xBE, 0xEF]) := by decide +kernel
/-- V-T02. -/
theorem test_run_ack : reply (step (decoding [0x06, 0x00, 0xF9])) = some (.reply, .ack, []) := by decide +kernel
/-- R139: a NACK opens the link. -/
theorem test_run_nack :
    ((nextOf (step { decoding [0x07, 0x00, 0xF8] with cmdOp := .openLink, life := .closed })).map
      fun t => (t.life, t.resKind, t.seq)) = some (.opened, .ok, .idle) := by decide +kernel
/-- V-T08: an unknown type is delivered with its byte. -/
theorem test_run_unknown :
    failure (step (decoding [0x09, 0x05, 0xF1, 0x00, 0x00, 0x00, 0x00, 0x00])) =
      some (.error, .unknownFrameControl, 9) := by decide +kernel

/-! ### One step: host commands at acceptance (R13, R70, R144; V-L01 to V-L06) -/

theorem test_run_open :
    accepted (exec (.openLink { busId := 0, deviceId := 1 }) shut) = some (.openArm, .openLink, .pending, []) := by
  decide
/-- V-L05. -/
theorem test_run_open_again :
    failure (exec (.openLink { busId := 0, deviceId := 1 }) ready) = some (.rejected, .alreadyOpen, 0) := by decide
theorem test_run_close : accepted (exec .close ready) = some (.close, .close, .pending, []) := by decide
/-- V-L04. -/
theorem test_run_close_again :
    ((nextOf (exec .close shut)).map fun t => (t.resKind, t.life, t.history)) = some (.ok, .closed, []) := by decide
theorem test_run_poll_reply : accepted (exec .pollReply ready) = some (.poll, .pollReply, .pending, []) := by decide
/-- V-L01. -/
theorem test_run_poll_reply_shut : failure (exec .pollReply shut) = some (.rejected, .notOpen, 0) := by decide
theorem test_run_send_message :
    accepted (exec (.sendMessage .ack [] false) ready) = some (.tx, .sendMessage, .pending, []) := by decide
/-- U2: 256 bytes are no command. -/
theorem test_run_send_message_long : nextOf (exec (.sendMessage .ack (zeros 256) false) ready) = none := by
  decide +kernel
theorem test_run_send_reset :
    ((nextOf (exec .sendReset ready)).map fun t => (t.seq, t.cmdFc, t.cmdLen, t.cmdSync)) =
      some (.tx, .reset, 0, true) := by decide
/-- R216: a send accepted while a reply is outstanding is performed and marks the run. -/
theorem test_run_send_reset_overlapping :
    ((nextOf (exec .sendReset { ready with outstanding := true })).map fun t => (t.seq, t.outstanding, t.overlapped)) =
      some (.tx, true, true) ∧
    ((nextOf (exec .sendReset ready)).map State.overlapped) = some false := by decide
/-- R216: it is a send only with a supported rate. -/
theorem test_run_set_phy_config :
    ((nextOf (exec (.setPhyConfig 93750) { ready with outstanding := true })).map fun t =>
      (t.seq, t.cmdBaud, t.overlapped)) = some (.lookup, 93750, true) ∧
    ((nextOf (exec (.setPhyConfig 100) { ready with outstanding := true })).map State.overlapped) = some false := by
  decide
/-- V-L03: the gate comes before the lookup. -/
theorem test_run_set_phy_config_shut :
    failure (exec (.setPhyConfig 100) shut) = some (.rejected, .notOpen, 0) := by decide
theorem test_run_telegram_sdn :
    ((nextOf (exec (.sendTelegramSdn [0xDE, 0xAD] false) ready)).map fun t =>
      (t.cmdFc, t.cmdLen, t.cmdPayload.take 2, t.cmdSync)) = some (.pbSdnRequest, 2, [0xDE, 0xAD], false) := by decide
theorem test_run_telegram_sdr :
    ((nextOf (exec (.sendTelegramSdr [0x10] true) ready)).map fun t =>
      (t.cmdFc, t.cmdLen, t.cmdPayload.take 1, t.cmdSync)) = some (.pbSdrRequest, 1, [0x10], true) := by decide

/-! ### One step: the sequencer states -/

/-- V-T06. -/
theorem test_step_lookup_none :
    failure (step { bench .lookup .setPhyConfig .opened true with cmdBaud := 100 }) =
      some (.error, .invalidBaudRate, 0) := by decide
/-- V-T04: the write of an asynchronous ACK. -/
theorem test_step_tx :
    ((nextOf (step { bench .tx .sendMessage .opened true with cmdSync := false })).map fun t =>
      (t.history, t.outstanding, t.resKind)) = some ([.xportWrite [0x06, 0x00, 0xF9]], true, .ok) := by decide +kernel
/-- V-T01. -/
theorem test_step_poll_clear :
    ((nextOf (step (bench .poll .pollReply .opened true))).map fun t => (t.resKind, t.history)) =
      some (.noReply, [.sigCheck false]) := by decide
/-- V-T10: a header that begins with 00 is read to its declared length. -/
theorem test_step_header :
    ((nextOf (step { bench .rxHdr .pollReply .opened true with readSide := [0x00, 0x06, 0x00, 0xF9] })).map
      fun t => (t.seq, t.rxbuf.take 3, t.readSide)) = some (.rxPay, [0x00, 0x06, 0x00], [0xF9]) := by decide +kernel
/-- P4: a failed configuration closes the transport at once. -/
theorem test_step_configure_fails :
    ((nextOf (step { opening .openXcfg true true .low with linkAnswers := [false] })).map fun t =>
      (t.seq, t.resErr, t.xportHeld)) = some (.openFail, .transportConfigError, false) := by decide
/-- P4: the clean-up of a failed OPEN. -/
theorem test_step_open_fail :
    ((nextOf (step (opening .openFail true true .high))).map fun t =>
      (t.resKind, t.sigArmed, t.xportHeld, t.rstLine)) = some (.error, false, false, .high) := by decide
/-- The words placed for the fetch run as the first instruction after reset (log 16). -/
theorem test_first_step :
    ((nextOf (step (State.reset.withFetchWord 3 0))).map fun t => t.seq) = some .openArm ∧
    ((nextOf (step (State.reset.withFetchWord 24 0xF90006))).map fun t => (t.resKind, t.resFc)) =
      some (.reply, .ack) := by decide

/-! ### For each statement with hypotheses, a state and operands that meet them -/

/-- The state whose host presents one command. -/
def asked (s : State) (p : CommandPort) : State := { s with host := [p] }

theorem test_meets_DecodeOfEncode :
    (Instr.ack 0x00 0xF9 []).wellFormed = true ∧ (Instr.sendMessage .nack (zeros 255) true).wellFormed = true := by
  decide +kernel

theorem test_meets_DecodedMessageReencodes :
    decodeMessage [0x06, 0x00, 0xF9] = .ok (.ack 0x00 0xF9 []) ∧ decodeMessage [0x00] = .ok (.nop []) := ⟨rfl, rfl⟩

theorem test_meets_FcsIsComplementOfSum : ([0x01, 0x00] : List Byte).length < headerLen := by decide

theorem test_meets_EncodeBuildsFrame : (zeros 255).length ≤ payloadMax ∧ ([] : List Byte).length ≤ payloadMax := by
  decide +kernel

theorem test_meets_CodecRoundTrip : (zeros 255).length ≤ payloadMax ∧ ([] : List Byte).length ≤ payloadMax := by
  decide +kernel

theorem test_meets_AcceptedBufferReencodes :
    decodeBuffer [0x06, 0x00, 0xF9] = .ok { fc := .ack, payload := [] } ∧ FrameControl.ack ≠ .nop := ⟨rfl, by decide⟩

/-- Both outcomes, at the first and the last bit. -/
theorem test_meets_SingleBitFlipIsDetected :
    encodeFrame { fc := .reset, payload := [] } = some [0x01, 0x00, 0xFE] ∧ FrameControl.reset ≠ .nop ∧
    (0 < headerLen ∧ 0 < 8 ∧ (flipBit [0x01, 0x00, 0xFE] 0 0).getD 0 0 = 0) ∧
    (2 < headerLen ∧ 7 < 8 ∧ (flipBit [0x01, 0x00, 0xFE] 2 7).getD 0 0 ≠ 0) := by decide

/-- The first and the last illegal value; a rest of one byte and of two; a right and a wrong checksum. -/
theorem test_meets_IllegalFrameControlRefused :
    8 ≤ (0x08 : Byte).toNat ∧ 8 ≤ (0xFF : Byte).toNat ∧ ([0x00] : List Byte).length < 2 ∧
    fcs [0x08, 0x00, 0xF7] = some 0xF7 ∧ fcs [0xFF, 0x00, 0x01] ≠ some 0x01 ∧
    encodeFrame { fc := .nack, payload := [] } = some [0x07, 0x00, 0xF8] := by decide

theorem test_meets_LifecycleCommandsAccepted :
    (shut.seq = .idle ∧ shut.life = .closed) ∧ (ready.seq = .idle ∧ ready.life = .opened) := by decide

theorem test_meets_TransactionCommandsAccepted :
    ready.seq = .idle ∧ ready.life = .opened ∧ (zeros 255).length ≤ payloadMax ∧
    (baudLookup 9600).isSome = true ∧ (baudLookup 9601).isSome = false := by decide +kernel

/-- One command for each row and each column of the gate. -/
theorem test_meets_GateTable :
    (commandOf (.openLink { busId := 0, deviceId := 0 }) = some .openLink ∧ commandOf .close = some .close ∧
      commandOf .pollReply = some .pollReply ∧ commandOf (.setPhyConfig 0) = some .setPhyConfig ∧
      commandOf .sendReset = some .sendReset) ∧
    Instr.wellFormed .sendReset = true ∧ shut.seq = .idle ∧ shut.life = .closed ∧ ready.seq = .idle ∧
    ready.life = .opened := by decide

theorem test_meets_ClosedCloseIsHarmless : shut.seq = .idle ∧ shut.life = .closed := by decide

theorem test_meets_OversizedPayloadRefused : payloadMax < (zeros 256).length := by decide +kernel

theorem test_meets_NothingRunsOutOfTurn :
    (commandOf .close = some .close ∧ Instr.wellFormed .close = true ∧
      (bench .poll .sendReset .opened true).seq ≠ .idle) ∧
    (commandOf (.ack 0x00 0xF9 []) = none ∧ (Instr.ack 0x00 0xF9 []).wellFormed = true ∧
      ready.seq ≠ .decode) := by decide

theorem test_meets_PseudoCommandsExpand :
    ready.seq = .idle ∧ ready.life = .opened ∧ (zeros 255).length ≤ payloadMax ∧
    baudLookup 100 = none ∧ baudLookup 9600 = some 0 ∧ baudLookup 12000000 = some 9 := by decide +kernel

theorem test_meets_SendingCommandsRunAlike :
    (bench .tx .sendReset .opened true).cmdOp.sends = true ∧ CmdOp.sendTelegramSdr.sends = true ∧
    (bench .tx .sendReset .opened true).seq ≠ .idle := by decide

theorem test_meets_BringUpSteps :
    (opening .openArm false false .low).seq = .openArm ∧ (opening .openRstLow true false .high).seq = .openRstLow ∧
    (opening .openHold true false .low).seq = .openHold ∧ (opening .openRstHigh true true .low).seq = .openRstHigh ∧
    (opening .openBoot true true .high).seq = .openBoot ∧
    (opening .openSwReset true true .high).seq = .openSwReset := by decide

/-- With a recorded answer of either kind, and with none. -/
theorem test_meets_TransportOpenStep :
    (opening .openXopen true false .low).seq = .openXopen ∧ (opening .openXopen true false .low).linkAnswers = [] ∧
    (opening .openXopen true false .low).rstLine = .low ∧
    ({ opening .openXopen true false .low with linkAnswers := [false] } : State).linkAnswers = false :: [] ∧
    ({ opening .openXopen true false .low with linkAnswers := [true] } : State).linkAnswers = true :: [] := by decide

theorem test_meets_TransportConfigStep :
    (opening .openXcfg true true .low).seq = .openXcfg ∧ (opening .openXcfg true true .low).xportHeld = true ∧
    (opening .openXcfg true true .low).linkAnswers = [] ∧
    ({ opening .openXcfg true true .low with linkAnswers := [false] } : State).linkAnswers = false :: [] ∧
    ({ opening .openXcfg true true .low with linkAnswers := [true] } : State).linkAnswers = true :: [] := by decide

/-- With the transport held and not held. -/
theorem test_meets_OpenFailReleases :
    ((opening .openFail true false .low).seq = .openFail ∧ (opening .openFail true false .low).sigArmed = true) ∧
    ((opening .openFail true true .high).seq = .openFail ∧ (opening .openFail true true .high).sigArmed = true) := by
  decide

theorem test_meets_CloseCommandRuns :
    (asked ready (port 1 0 [] false 0)).ready = true ∧ (asked ready (port 1 0 [] false 0)).schedule = [] ∧
    (asked ready (port 1 0 [] false 0)).host = port 1 0 [] false 0 :: [] ∧ (port 1 0 [] false 0).code = 1 := by decide

/-- A closed link about to be opened, with the edge after `n` engine steps and what is emitted just before it;
`waits` waits on the read side. -/
def toOpen (n : Nat) (emitted : List (List Byte)) (waits : List Byte) : State :=
  { asked shut (port 0 0 [] false 0) with
    linkAnswers := [true, true], readSide := waits
    schedule := List.replicate n .engine ++ emitted.map .emit ++ [.edge] }

/-- The edge right after the signal was armed, with the frame and one byte more waiting; after the soft reset was
written, with the frame emitted in two parts; after one empty check of an unbounded wait. -/
theorem test_meets_OpenBringsLinkUp :
    ((toOpen 2 [] [0x06, 0x00, 0xF9, 0x55]).seq = .idle ∧ (toOpen 2 [] [0x06, 0x00, 0xF9, 0x55]).life = .closed ∧
      (toOpen 2 [] [0x06, 0x00, 0xF9, 0x55]).rxbuf.length = frameMax ∧
      (toOpen 2 [] [0x06, 0x00, 0xF9, 0x55]).host = port 0 0 [] false 0 :: [] ∧ (port 0 0 [] false 0).code = 0 ∧
      (toOpen 2 [] [0x06, 0x00, 0xF9, 0x55]).linkAnswers = true :: true :: [] ∧
      encodeFrame { fc := .ack, payload := [] } = some [0x06, 0x00, 0xF9]) ∧
    ((toOpen 2 [] [0x06, 0x00, 0xF9, 0x55]).schedule = [.engine, .engine, .edge] ∧
      (toOpen 2 [] [0x06, 0x00, 0xF9, 0x55]).readSide ++ [].flatten = [0x06, 0x00, 0xF9] ++ [0x55]) ∧
    ((toOpen 10 [[0x06, 0x00], [0xF9]] []).schedule =
        List.replicate 10 .engine ++ [.emit [0x06, 0x00], .emit [0xF9]] ++ [.edge] ∧
      (toOpen 10 [[0x06, 0x00], [0xF9]] []).readSide ++ [[0x06, 0x00], [0xF9]].flatten =
        [0x06, 0x00, 0xF9] ++ []) ∧
    ((toOpen 11 [] [0x06, 0x00, 0xF9]).params.syncTimeoutPolls = none ∧
      (toOpen 11 [] [0x06, 0x00, 0xF9]).schedule = List.replicate 11 .engine ++ [] ++ [.edge]) := by decide +kernel

theorem test_meets_LookupStep :
    (bench .lookup .setPhyConfig .opened true).seq = .lookup ∧
    baudLookup (bench .lookup .setPhyConfig .opened true).cmdBaud = none ∧
    baudLookup ({ bench .lookup .setPhyConfig .opened true with cmdBaud := 12000000 } : State).cmdBaud = some 9 := by
  decide

theorem test_meets_TransmitStep :
    (bench .tx .sendReset .opened true).seq = .tx ∧ (bench .tx .sendReset .opened true).xportHeld = true ∧
    (bench .tx .sendReset .opened true).cmdSync = true := by decide

/-- A synchronous wait bounded by two empty polls that has made `n`. -/
def bounded (n : Nat) : State :=
  { bench .poll .sendReset .opened true with
    params := { Config.nominal with syncTimeoutPolls := some 2 }, pollCnt := n }

/-- Each branch: found set, found clear, and a bounded wait before its bound and at it. -/
theorem test_meets_PollStep :
    (bench .poll .sendReset .opened true).seq = .poll ∧ (bench .poll .sendReset .opened true).sigArmed = true ∧
    (bench .poll .sendReset .opened true).readyLatch = false ∧
    (bench .poll .sendReset .opened true).params.syncTimeoutPolls = none ∧
    ({ bench .poll .sendReset .opened true with readyLatch := true } : State).readyLatch = true ∧
    (bench .poll .pollReply .opened true).cmdOp = .pollReply ∧
    (bounded 0).params.syncTimeoutPolls = some 2 ∧ (bounded 0).pollCnt + 1 < 2 ∧
    (bounded 1).params.syncTimeoutPolls = some 2 ∧ ¬ (bounded 1).pollCnt + 1 < 2 := by decide

/-- Three bytes waiting and two; a length byte of one and of 255. -/
theorem test_meets_ReceiveSteps :
    ((bench .rxHdr .pollReply .opened true).xportHeld = true ∧
      (bench .rxHdr .pollReply .opened true).seq = .rxHdr ∧
      3 ≤ ([0x06, 0x00, 0xF9] : List Byte).length ∧ ¬ 3 ≤ ([0x06, 0x00] : List Byte).length) ∧
    ((bench .rxPay .pollReply .opened true).xportHeld = true ∧
      (bench .rxPay .pollReply .opened true).seq = .rxPay ∧
      (([0x03, 0x01, 0xFF] : List Byte).getD 1 0).toNat = 1 ∧
      (([0x05, 0xFF, 0xFA] : List Byte).getD 1 0).toNat = 255) := by decide

/-- A frame and an error, in a transaction and in OPEN. -/
theorem test_meets_DecodeStepFollowsDecode :
    (decoding [0x06, 0x00, 0xF9]).seq = .decode ∧
    frameOf (decodeBuffer (received (decoding [0x06, 0x00, 0xF9]))) = some { fc := .ack, payload := [] } ∧
    errorOf (decodeBuffer (received (decoding [0x06, 0x00, 0xF8]))) = some .checksumMismatch ∧
    (decoding [0x06, 0x00, 0xF9]).cmdOp ≠ .openLink ∧
    ({ decoding [0x06, 0x00, 0xF9] with cmdOp := .openLink } : State).cmdOp = .openLink := by decide +kernel

/-- Each of the eight types. -/
theorem test_meets_WireMessagesDelivered :
    (deliveredFrame (.nop []) = some { fc := .nop, payload := [] } ∧ (Instr.nop []).wellFormed = true) ∧
    ((Instr.reset 0x00 0xFE []).wellFormed = true ∧ (Instr.setConfig 0x01 0xF9 [0x03]).wellFormed = true ∧
      (Instr.pbSdrRequest 0x01 0xFF [0xFC]).wellFormed = true ∧ (Instr.pbSdrReply 0x00 0xFB []).wellFormed = true ∧
      (Instr.pbSdnRequest 0x00 0xFA []).wellFormed = true ∧ (Instr.ack 0x00 0xF9 []).wellFormed = true ∧
      (Instr.nack 0x00 0xF8 []).wellFormed = true) ∧
    deliveredFrame (.nack 0x00 0xF8 []) = some { fc := .nack, payload := [] } ∧
    (decoding [0x07, 0x00, 0xF8]).seq = .decode := by decide

/-- V-D10 and V-D12. -/
theorem test_meets_DamagedMessagesAreErrors :
    (FrameControl.reset ≠ .nop ∧ fcs [0x01, 0x00, 0xFF] ≠ some 0xFF ∧ (decoding [0x01, 0x00, 0xFF]).seq = .decode) ∧
    (fcs [0x01, 0x01, 0xFD] = some 0xFD ∧ ([] : List Byte).length ≠ (0x01 : Byte).toNat) := by decide

/-- An engine with the latch set and a frame waiting. -/
def toPoll : State :=
  { asked ready (port 2 0 [] false 0) with readyLatch := true, readSide := [0x03, 0x01, 0xFF, 0xFC] }

theorem test_meets_PollReplyReturnsFrame :
    toPoll.ready = true ∧ toPoll.schedule = [] ∧ toPoll.host = port 2 0 [] false 0 :: [] ∧
    (port 2 0 [] false 0).code = 2 ∧ toPoll.readyLatch = true ∧ toPoll.rxbuf.length = frameMax ∧
    encodeFrame { fc := .pbSdrRequest, payload := [0xFC] } = some [0x03, 0x01, 0xFF, 0xFC] ∧
    toPoll.readSide = [0x03, 0x01, 0xFF, 0xFC] ++ [] := by decide +kernel

theorem test_meets_PollWithoutEdge :
    (asked ready (port 2 0 [] false 0)).ready = true ∧ (asked ready (port 2 0 [] false 0)).schedule = [] ∧
    (asked ready (port 2 0 [] false 0)).host = port 2 0 [] false 0 :: [] ∧ (port 2 0 [] false 0).code = 2 ∧
    (asked ready (port 2 0 [] false 0)).readyLatch = false := by decide

theorem test_meets_AsyncSendWritesFrame :
    (asked ready (port 3 6 [] false 0)).ready = true ∧ (asked ready (port 3 6 [] false 0)).schedule = [] ∧
    (asked ready (port 3 6 [] false 0)).host = port 3 6 [] false 0 :: [] ∧ (port 3 6 [] false 0).code = 3 ∧
    (port 3 6 [] false 0).sync = false ∧ (port 3 6 (zeros 255) false 0).payload.length ≤ payloadMax := by
  decide +kernel

/-- A synchronous send whose answer comes after the write (V-T03 with no empty check). -/
def toSend : State :=
  { asked ready (port 3 3 [0xFC] true 0) with schedule := [.engine, .engine, .emit [0x04, 0x00, 0xFB], .edge] }

theorem test_meets_SyncSendReturnsFirstFrame :
    toSend.ready = true ∧ toSend.host = port 3 3 [0xFC] true 0 :: [] ∧ (port 3 3 [0xFC] true 0).code = 3 ∧
    (port 3 3 [0xFC] true 0).sync = true ∧ (port 3 3 [0xFC] true 0).payload.length ≤ payloadMax ∧
    toSend.rxbuf.length = frameMax ∧ toSend.readSide = [] ∧
    encodeFrame { fc := .pbSdrReply, payload := [] } = some [0x04, 0x00, 0xFB] ∧
    encodeFrame { fc := .nop, payload := [0x01, 0x02] } = some [0x00, 0x02, 0xFA, 0x01, 0x02] ∧
    toSend.schedule = [.engine, .engine, .emit [0x04, 0x00, 0xFB], .edge] := by decide +kernel

/-- A synchronous wait with the given bound and turns. -/
def waiting (bound : Option Nat) (turns : List Turn) : State :=
  { bench .poll .sendReset .opened true with
    params := { Config.nominal with syncTimeoutPolls := bound }, schedule := turns }

/-- No empty check before the edge, and two. -/
theorem test_meets_WaitChecksUntilEdge :
    ((waiting none [.edge]).seq = .poll ∧ (waiting none [.edge]).sigArmed = true ∧
      (waiting none [.edge]).readyLatch = false ∧ (waiting none [.edge]).cmdOp ≠ .pollReply ∧
      (waiting none [.edge]).params.syncTimeoutPolls = none ∧ (waiting none [.edge]).params.pollGap = 0) ∧
    (waiting none [.edge]).schedule = List.replicate 0 .engine ++ [.edge] ∧
    (waiting none [.engine, .engine, .edge]).schedule = List.replicate 2 .engine ++ [.edge] := by decide

theorem test_meets_SilentCompanionHangs :
    (waiting none []).seq = .poll ∧ (waiting none []).sigArmed = true ∧ (waiting none []).readyLatch = false ∧
    (waiting none []).cmdOp ≠ .pollReply ∧ (waiting none []).params.syncTimeoutPolls = none ∧
    (waiting none []).schedule = [] := by decide

/-- The smallest bound. -/
theorem test_meets_BoundedWaitTimesOut :
    (waiting (some 1) []).seq = .poll ∧ (waiting (some 1) []).sigArmed = true ∧
    (waiting (some 1) []).readyLatch = false ∧ (waiting (some 1) []).cmdOp ≠ .pollReply ∧
    (waiting (some 1) []).params.syncTimeoutPolls = some 1 ∧ 1 ≤ 1 ∧ (waiting (some 1) []).pollCnt = 0 ∧
    (waiting (some 1) []).schedule = [] := by decide

theorem test_meets_PollReplyNeverBlocks :
    (bench .poll .pollReply .opened true).inv = true ∧ (bench .poll .pollReply .opened true).cmdOp = .pollReply ∧
    (bench .poll .pollReply .opened true).seq ≠ .idle := by decide +kernel

theorem test_meets_ReadyEdgeLatches :
    ({ ready with schedule := [.edge] } : State).schedule = .edge :: [] ∧ ready.sigArmed = true ∧
    shut.sigArmed = false := by decide

theorem test_meets_LatchHeldUntilCleared :
    ({ bench .poll .pollReply .opened true with readyLatch := true } : State).readyLatch = true ∧
    ((nextOf (step { bench .poll .pollReply .opened true with readyLatch := true })).map State.readyLatch) =
      some false := by decide

theorem test_meets_CompanionBytesQueue :
    ({ ready with schedule := [.emit [0x06]] } : State).schedule = .emit [0x06] :: [] ∧
    ({ shut with schedule := [.restock [0x06]] } : State).schedule = .restock [0x06] :: [] := by decide

theorem test_meets_PowerOnAtAnyTime : ({ ready with schedule := [.powerOn] } : State).schedule = .powerOn :: [] := by
  decide

theorem test_meets_IdleEngineWaits : shut.seq = .idle ∧ shut.host = [] := by decide

theorem test_meets_StepRunsDecoded :
    ((asked ready (port 1 0 [] false 0)).seq = .idle ∧
      (asked ready (port 1 0 [] false 0)).host = port 1 0 [] false 0 :: [] ∧
      instrOf (decode (.host (port 1 0 [] false 0))) = some .close) ∧
    ((decoding [0x06, 0x00, 0xF9]).seq = .decode ∧
      instrOf (decode (.wire (received (decoding [0x06, 0x00, 0xF9])))) = some (.ack 0x00 0xF9 [])) ∧
    ready.schedule = [] ∧ ({ ready with schedule := [.engine] } : State).schedule = .engine :: [] := by decide +kernel

theorem test_meets_CommandSampledOnce :
    (bench .poll .pollReply .opened true).seq ≠ .idle ∧
    (nextOf (engineStep (bench .poll .pollReply .opened true))).isSome = true := by decide

/-- Also for NoFaultFromInvariant. -/
theorem test_meets_InvariantKept :
    (bench .poll .pollReply .opened true).inv = true ∧
    (nextOf (step (bench .poll .pollReply .opened true))).isSome = true := by decide +kernel

theorem test_meets_RefusedOnlyOversized :
    (asked ready (port 3 6 (zeros 256) false 0)).seq = .idle ∧
    refusalOf (step (asked ready (port 3 6 (zeros 256) false 0))) = some .payloadTooLong := by decide +kernel

theorem test_meets_ReadsAreChecked :
    (bench .poll .pollReply .opened true).readsChecked = true ∧
    ({ bench .rxHdr .pollReply .opened true with history := [.sigCheck true] } : State).readsChecked = true ∧
    ({ bench .rxHdr .pollReply .opened true with history := [.sigCheck false] } : State).readsChecked = false := by
  decide

theorem test_meets_ResourcesBalanced :
    ({ bench .close .close .opened true with
      history := [.sigConfigure 0 .rising, .xportOpen { busId := 0, deviceId := 0 } true] } : State).balanced = true ∧
    (bench .close .close .opened true).inv = true ∧ (bench .close .close .opened true).balanced = false ∧
    (bench .close .close .opened true).schedule = [] := by decide +kernel

/-- The clean-up with and without a held transport, and CLOSE. -/
theorem test_meets_FailedOpenAndCloseReleaseAll :
    ((opening .openFail true false .low).inv = true ∧
      (nextOf (engineStep (opening .openFail true false .low))).isSome = true) ∧
    ((opening .openFail true true .high).inv = true ∧
      (nextOf (engineStep (opening .openFail true true .high))).isSome = true) ∧
    ((bench .close .close .opened true).inv = true ∧
      (nextOf (engineStep (bench .close .close .opened true))).isSome = true) := by decide +kernel

/-- The three ways `life` changes. -/
theorem test_meets_LifeChangesOnly :
    ((nextOf (step { decoding [0x07, 0x00, 0xF8] with cmdOp := .openLink, life := .closed })).map State.life) =
      some .opened ∧
    ((nextOf (step (bench .close .close .opened true))).map State.life) = some .closed ∧
    ((nextOf (step { ready with schedule := [.powerOn] })).map State.life) = some .closed := by decide +kernel

theorem test_meets_ResetLineWrittenOnlyByOpen :
    ((nextOf (step (opening .openRstLow true false .high))).map State.rstLine) = some .low ∧
    ((nextOf (step (opening .openRstHigh true true .low))).map State.rstLine) = some .high := by decide

theorem test_meets_ReceivePathErrors :
    (decoding [0x06, 0x00, 0xF9]).inv = true ∧ (decoding [0x06, 0x00, 0xF9]).seq = .decode := by decide +kernel

theorem test_meets_NoReplyOnlyFromPollReply :
    (bench .poll .pollReply .opened true).resKind ≠ .noReply ∧
    ((nextOf (step (bench .poll .pollReply .opened true))).map State.resKind) = some .noReply := by decide

end Sys2Proof.Tests
end

section
/-! The values R28 fixes: what every power-on reset gives, whatever the draws, the parameters and the environment.
The state after reset is one case of it. -/

namespace Sys2Proof.Machine

section
variable (n : Nat) (params : Params) (host : List CommandPort) (schedule : List Turn) (readSide : List Byte)
  (linkAnswers : List Bool) (history : List Call) (overlapped : Bool)

@[simp] theorem State.atPowerOn_seq :
    (State.atPowerOn n params host schedule readSide linkAnswers history overlapped).seq = .idle := rfl

@[simp] theorem State.atPowerOn_life :
    (State.atPowerOn n params host schedule readSide linkAnswers history overlapped).life = .closed := rfl

@[simp] theorem State.atPowerOn_sigArmed :
    (State.atPowerOn n params host schedule readSide linkAnswers history overlapped).sigArmed = false := rfl

@[simp] theorem State.atPowerOn_xportHeld :
    (State.atPowerOn n params host schedule readSide linkAnswers history overlapped).xportHeld = false := rfl

@[simp] theorem State.atPowerOn_readyLatch :
    (State.atPowerOn n params host schedule readSide linkAnswers history overlapped).readyLatch = false := rfl

@[simp] theorem State.atPowerOn_outstanding :
    (State.atPowerOn n params host schedule readSide linkAnswers history overlapped).outstanding = false := rfl

@[simp] theorem State.atPowerOn_pollCnt :
    (State.atPowerOn n params host schedule readSide linkAnswers history overlapped).pollCnt = 0 := rfl

@[simp] theorem State.atPowerOn_resKind :
    (State.atPowerOn n params host schedule readSide linkAnswers history overlapped).resKind = .ok := rfl

end

/-- Settles O46: R28's values hold after any power-on reset, and the baud-rate table is a constant. -/
theorem resetValues : Obligations.ResetValues :=
  ⟨State.atPowerOn_seq .., State.atPowerOn_life .., State.atPowerOn_sigArmed .., State.atPowerOn_xportHeld ..,
    State.atPowerOn_readyLatch .., State.atPowerOn_outstanding .., State.atPowerOn_pollCnt ..,
    State.atPowerOn_resKind .., rfl⟩

end Sys2Proof.Machine
end

section
/-! Laws of the codec for O11: the range of byte 0, and how each refusal of DECODE that comes before the length test
arises (R97, one lemma per test). -/

namespace Sys2Proof

/-- Only the values 0 to 7 select a frame type (R62, R67). -/
theorem FrameControl.ofByte_eq_none_iff {b : Byte} : FrameControl.ofByte b = none ↔ 8 ≤ b.toNat := by
  simp [FrameControl.ofByte, Nat.succ_le_iff]

theorem FrameControl.ordinal_le_seven (fc : FrameControl) : fc.ordinal.toNat ≤ 7 := by
  cases fc <;> decide

theorem decodeBuffer_frameTooSmall {b0 : Byte} {rest : List Byte} (h0 : b0 ≠ 0#8) (hlen : rest.length < 2) :
    decodeBuffer (b0 :: rest) = .error .frameTooSmall := by
  match rest with
  | [] | [_] => simp [decodeBuffer, h0]
  | _ :: _ :: _ => simp at hlen

theorem decodeBuffer_checksumMismatch {b0 b1 b2 : Byte} {payload : List Byte} (h0 : b0 ≠ 0#8)
    (hfcs : fcs (b0 :: b1 :: b2 :: payload) ≠ some b2) :
    decodeBuffer (b0 :: b1 :: b2 :: payload) = .error .checksumMismatch := by
  simp [decodeBuffer, h0, hfcs]

theorem decodeBuffer_unknownFrameControl {b0 b1 b2 : Byte} {payload : List Byte} (h0 : b0 ≠ 0#8)
    (hfcs : fcs (b0 :: b1 :: b2 :: payload) = some b2) (hfc : FrameControl.ofByte b0 = none) :
    decodeBuffer (b0 :: b1 :: b2 :: payload) = .error (.unknownFrameControl b0) := by
  simp [decodeBuffer, h0, hfcs, hfc]

/-- What ENCODE writes begins with the ordinal of the frame control (R94). -/
theorem head_of_encodeFrame {f : Frame} {buf : List Byte} (h : encodeFrame f = some buf) :
    buf.getD 0 0 = f.fc.ordinal := by
  rcases Nat.lt_or_ge payloadMax f.payload.length with hlong | hfits
  · simp [encodeFrame_eq_none hlong] at h
  · obtain ⟨ck, henc, -⟩ := encodeFrame_eq_some hfits
    obtain rfl := Option.some.inj (henc.symm.trans h)
    rfl

/-- Settles O11: a byte 0 of 8 or more is not NOP's and selects no frame type, so the length test and the checksum
test come first and the type test refuses the rest; ENCODE writes an ordinal, which is at most 7. -/
theorem illegalFrameControlRefused : Obligations.IllegalFrameControlRefused := by
  refine ⟨fun b0 rest hb0 => ?_, fun f buf henc => ?_⟩
  · have h0 : b0 ≠ 0#8 := by rintro rfl; simp at hb0
    refine ⟨decodeBuffer_frameTooSmall h0, ?_⟩
    rintro b1 b2 payload rfl
    split
    case isTrue hfcs => exact decodeBuffer_unknownFrameControl h0 hfcs (FrameControl.ofByte_eq_none_iff.mpr hb0)
    case isFalse hfcs => exact decodeBuffer_checksumMismatch h0 hfcs
  · rw [head_of_encodeFrame henc]
    exact f.fc.ordinal_le_seven

end Sys2Proof
end

section
/-! The baud-rate table for O12: no rate and no identifier stands in two rows, so a lookup by either column finds
exactly the rows of the table. -/

namespace Sys2Proof

/-- A lookup by a key that no two entries share finds exactly the entry with that key. -/
theorem find?_key_eq_some_iff {α κ : Type} [BEq κ] [LawfulBEq κ] {key : α → κ} {entries : List α}
    (hkeys : (entries.map key).Nodup) {k : κ} {entry : α} :
    entries.find? (fun e => key e == k) = some entry ↔ entry ∈ entries ∧ key entry = k := by
  constructor
  · intro h
    exact ⟨List.mem_of_find?_eq_some h, by simpa using List.find?_some h⟩
  · rintro ⟨hmem, rfl⟩
    obtain ⟨found, hfound⟩ := Option.isSome_iff_exists.mp
      (List.find?_isSome (p := fun e => key e == key entry) |>.mpr ⟨entry, hmem, by simp⟩)
    have hkey : key found = key entry := by simpa using List.find?_some hfound
    rw [hfound, List.inj_on_of_nodup_map hkeys (List.mem_of_find?_eq_some hfound) hmem hkey]

theorem baudTable_rates_nodup : (baudTable.map (·.1)).Nodup := by decide

theorem baudTable_idents_nodup : (baudTable.map (·.2)).Nodup := by decide

theorem baudLookup_eq_some_iff {rate : BitVec 32} {ident : Byte} :
    baudLookup rate = some ident ↔ (rate, ident) ∈ baudTable := by
  simp [baudLookup, find?_key_eq_some_iff baudTable_rates_nodup]

theorem baudRate_eq_some_iff {rate : BitVec 32} {ident : Byte} :
    baudRate ident = some rate ↔ (rate, ident) ∈ baudTable := by
  simp [baudRate, find?_key_eq_some_iff baudTable_idents_nodup]

/-- Settles O12: both lookups find exactly the rows of the table. -/
theorem baudTableIsExact : Obligations.BaudTableIsExact := fun _ _ =>
  ⟨baudLookup_eq_some_iff, baudRate_eq_some_iff.trans baudLookup_eq_some_iff.symm⟩

end Sys2Proof
end

section
/-! DECODE and ENCODE as R97 and R94 state them, for O7 and O6: the outcomes of DECODE whose tests the laws above do
not yet cover, and the byte FCS leaves out. -/

namespace Sys2Proof

theorem FrameControl.ofByte_eq_some {b : Byte} (h : b.toNat ≤ 7) :
    FrameControl.ofByte b = some (.ofBits (b.setWidth 3)) := by
  simp [FrameControl.ofByte, h]

/-- A byte 0 of zero decides alone, whatever follows (R97, R99). -/
theorem decodeBuffer_nop (rest : List Byte) : decodeBuffer (0#8 :: rest) = .ok { fc := .nop, payload := [] } := by
  simp [decodeBuffer]

/-- Past the type test, the length byte decides between the last error and the frame (R97). -/
theorem decodeBuffer_of_ofByte_eq_some {b0 b1 b2 : Byte} {payload : List Byte} {fc : FrameControl} (h0 : b0 ≠ 0#8)
    (hfcs : fcs (b0 :: b1 :: b2 :: payload) = some b2) (hfc : FrameControl.ofByte b0 = some fc) :
    decodeBuffer (b0 :: b1 :: b2 :: payload) =
      if payload.length ≠ b1.toNat then .error .payloadLengthMismatch else .ok { fc := fc, payload := payload } := by
  simp [decodeBuffer, h0, hfcs, hfc]

/-- Settles O7: one case per test of R97, in the order of the tests, each by the law for its outcome. -/
theorem decodeTestsInOrder : Obligations.DecodeTestsInOrder := by
  rintro (_ | ⟨b0, rest⟩)
  case nil => rfl
  case cons =>
    by_cases h0 : b0 = 0#8
    · subst h0
      simp [decodeBuffer_nop]
    rcases rest with _ | ⟨b1, _ | ⟨b2, payload⟩⟩
    · simp [decodeBuffer_frameTooSmall h0, h0]
    · simp [decodeBuffer_frameTooSmall h0, h0]
    by_cases hfcs : fcs (b0 :: b1 :: b2 :: payload) = some b2
    · rcases Nat.lt_or_ge 7 b0.toNat with hunknown | hknown
      · have hfc := FrameControl.ofByte_eq_none_iff.mpr hunknown
        simp [decodeBuffer_unknownFrameControl h0 hfcs hfc, h0, hfcs, hunknown]
      · have hfc := FrameControl.ofByte_eq_some hknown
        simp [decodeBuffer_of_ofByte_eq_some h0 hfcs hfc, h0, hfcs, Nat.not_lt.mpr hknown]
    · simp [decodeBuffer_checksumMismatch h0 hfcs, h0, hfcs]

/-- FCS leaves the byte at offset 2 out (R90, R91). -/
theorem fcs_eq_of_checksum_replaced (a b c d : Byte) (rest : List Byte) :
    fcs (a :: b :: c :: rest) = fcs (a :: b :: d :: rest) := by
  rw [fcs_cons, fcs_cons]

/-- Settles O6: the checksum ENCODE writes is the FCS of the finished frame, and so also of the frame with a zero in
its place. -/
theorem encodeBuildsFrame : Obligations.EncodeBuildsFrame := by
  intro f hfits
  obtain ⟨ck, henc, hfcs⟩ := encodeFrame_eq_some hfits
  exact ⟨ck, (fcs_eq_of_checksum_replaced ..).trans hfcs, henc⟩

end Sys2Proof
end

section
/-! The lifecycle for O16 and O21: CLOSE on a closed link, and the steps of OPEN that have one outcome only. -/

namespace Sys2Proof.Machine

/-! ### CLOSE on a closed link -/

theorem goto_eq_self {s : State} {q : Seq} (hseq : s.seq = q) : s.goto q = s := by
  subst hseq
  rfl

/-- A command with nothing to do ends at once with OK (R143). -/
theorem accept_of_nothingToDo {op : CmdOp} {load : State → State} {first : Seq} {s : State}
    (hseq : s.seq = .idle) (hgate : gate op s.life = .nothingToDo) :
    accept op load first s = .next (complete .ok s) := by
  simp [accept, hseq, hgate]

/-- OK writes one result register, and an idle engine stays idle (R17). -/
theorem complete_ok_of_idle {s : State} (hseq : s.seq = .idle) : complete .ok s = { s with resKind := .ok } :=
  goto_eq_self (s := s.setResult .ok) hseq

/-- Settles O16: the gate finds nothing to do for CLOSE on a closed link. -/
theorem closedCloseIsHarmless : Obligations.ClosedCloseIsHarmless := by
  intro s hseq hclosed
  have hgate : gate .close s.life = .nothingToDo := by rw [hclosed]; rfl
  calc exec .close s
    _ = accept .close id .close s := rfl
    _ = .next (complete .ok s) := accept_of_nothingToDo hseq hgate
    _ = .next { s with resKind := .ok } := by rw [complete_ok_of_idle hseq]

/-! ### The engine's step in the states of OPEN without a failure -/

theorem engineStep_openArm {s : State} (hseq : s.seq = .openArm) : engineStep s = stepOpenArm s := by
  simp [engineStep, fetch, hseq]

theorem engineStep_openRstLow {s : State} (hseq : s.seq = .openRstLow) : engineStep s = stepOpenRstLow s := by
  simp [engineStep, fetch, hseq]

theorem engineStep_openHold {s : State} (hseq : s.seq = .openHold) : engineStep s = stepOpenHold s := by
  simp [engineStep, fetch, hseq]

theorem engineStep_openRstHigh {s : State} (hseq : s.seq = .openRstHigh) : engineStep s = stepOpenRstHigh s := by
  simp [engineStep, fetch, hseq]

theorem engineStep_openBoot {s : State} (hseq : s.seq = .openBoot) : engineStep s = stepOpenBoot s := by
  simp [engineStep, fetch, hseq]

theorem engineStep_openSwReset {s : State} (hseq : s.seq = .openSwReset) : engineStep s = stepOpenSwReset s := by
  simp [engineStep, fetch, hseq]

/-- A pause adds at most itself to the history (R201; log 17). -/
theorem delay_eq_append (t : Nat) (s : State) :
    ∃ pause : List Call, (pause = [] ∨ pause = [.delay t]) ∧
      delay t s = { s with history := s.history ++ pause } := by
  by_cases ht : t = 0
  · exact ⟨[], .inl rfl, by simp [delay, ht]⟩
  · exact ⟨[.delay t], .inr rfl, by simp [delay, ht, State.record]⟩

/-- A step that pauses and goes on changes nothing else (R133, R137). -/
theorem delay_goto_eq (t : Nat) (q : Seq) (s : State) :
    ∃ pause : List Call, (pause = [] ∨ pause = [.delay t]) ∧
      (delay t s).goto q = { s with seq := q, history := s.history ++ pause } := by
  obtain ⟨pause, hpause, hdelay⟩ := delay_eq_append t s
  exact ⟨pause, hpause, by rw [hdelay]; rfl⟩

@[simp] theorem overwrite_zero_nil (buf : List Byte) : overwrite buf 0 [] = buf := by simp [overwrite]

/-- A frame without payload leaves `cmd_payload` as it is. -/
theorem loadFrame_nil (fc : FrameControl) (sync : Bool) (s : State) :
    loadFrame fc [] sync s = { s with cmdFc := fc, cmdLen := 0, cmdSync := sync } := by
  simp [loadFrame]

/-- Settles O21: each state's own step, written out; the two pauses by what a pause adds to the history. -/
theorem bringUpSteps : Obligations.BringUpSteps := by
  intro s
  refine ⟨fun harm => ?arm, fun hlow => ?rstLow, fun hhold => ?hold, fun hhigh => ?rstHigh, fun hboot => ?boot,
    fun hswReset => ?swReset⟩
  case arm => exact engineStep_openArm harm
  case rstLow => exact engineStep_openRstLow hlow
  case hold =>
    obtain ⟨pause, hpause, hnext⟩ := delay_goto_eq s.params.resetHold .openXopen s
    exact ⟨pause, hpause, by rw [engineStep_openHold hhold, stepOpenHold, hnext]⟩
  case rstHigh => exact engineStep_openRstHigh hhigh
  case boot =>
    obtain ⟨pause, hpause, hnext⟩ := delay_goto_eq s.params.bootWait .openSwReset s
    exact ⟨pause, hpause, by rw [engineStep_openBoot hboot, stepOpenBoot, hnext]⟩
  case swReset => rw [engineStep_openSwReset hswReset, stepOpenSwReset, loadFrame_nil, State.goto]

end Sys2Proof.Machine
end

section
/-! The transactions (43_phy_transactions.md) for O27 to O31: the engine's step in each of their sequencer states, by
the outcome of the primitive the state calls. -/

namespace Sys2Proof.Machine

/-! ### Whose work the engine's step is -/

theorem engineStep_lookup {s : State} (hseq : s.seq = .lookup) : engineStep s = stepLookup s := by
  simp [engineStep, fetch, hseq]

theorem engineStep_tx {s : State} (hseq : s.seq = .tx) : engineStep s = stepTx s := by
  simp [engineStep, fetch, hseq]

theorem engineStep_poll {s : State} (hseq : s.seq = .poll) : engineStep s = stepPoll s := by
  simp [engineStep, fetch, hseq]

theorem engineStep_rxHdr {s : State} (hseq : s.seq = .rxHdr) : engineStep s = stepRxHdr s := by
  simp [engineStep, fetch, hseq]

theorem engineStep_rxPay {s : State} (hseq : s.seq = .rxPay) : engineStep s = stepRxPay s := by
  simp [engineStep, fetch, hseq]

/-! ### S_DECODE -/

/-- Everything the instruction decoder can make of a received buffer: a NOP, a message whose fields are the buffer's
bytes, or the error that DECODE gives too (R97, R98). -/
theorem decodeMessage_cases (buf : List Byte) :
    (∃ rest, buf = FrameControl.ordinal .nop :: rest ∧ decodeMessage buf = .ok (.nop rest)) ∨
    (∃ fc len checksum payload, buf = fieldBytes fc len checksum payload ∧
      decodeMessage buf = .ok (wireMessage fc len checksum payload)) ∨
    (∃ e, decodeMessage buf = .error e ∧ decodeBuffer buf = .error e) := by
  rcases buf with _ | ⟨b0, rest⟩
  case nil => exact .inr (.inr ⟨.frameTooSmall, rfl, rfl⟩)
  case cons =>
    by_cases h0 : b0 = 0#8
    · exact .inl ⟨rest, by rw [h0]; rfl, by simp [decodeMessage, h0]⟩
    rcases rest with _ | ⟨len, _ | ⟨checksum, payload⟩⟩
    · exact .inr (.inr ⟨.frameTooSmall, by simp [decodeMessage, h0], decodeBuffer_frameTooSmall h0 (by simp)⟩)
    · exact .inr (.inr ⟨.frameTooSmall, by simp [decodeMessage, h0], decodeBuffer_frameTooSmall h0 (by simp)⟩)
    cases hfc : FrameControl.ofByte b0 with
    | some fc =>
      exact .inr (.inl ⟨fc, len, checksum, payload, by rw [fieldBytes, FrameControl.ordinal_of_ofByte hfc],
        by simp [decodeMessage, h0, hfc]⟩)
    | none =>
      by_cases hfcs : fcs (b0 :: len :: checksum :: payload) = some checksum
      · exact .inr (.inr ⟨.unknownFrameControl b0, by simp [decodeMessage, h0, hfc, hfcs],
          decodeBuffer_unknownFrameControl h0 hfcs hfc⟩)
      · exact .inr (.inr ⟨.checksumMismatch, by simp [decodeMessage, h0, hfc, hfcs],
          decodeBuffer_checksumMismatch h0 hfcs⟩)

/-- The eight meanings are one: the message's bytes are received (R110). -/
theorem exec_wireMessage (fc : FrameControl) (len checksum : Byte) (payload : List Byte) (s : State) :
    exec (wireMessage fc len checksum payload) s = receiveFrame (fieldBytes fc len checksum payload) s := by
  cases fc <;> rfl

/-- In S_DECODE the instruction decoder and exec together do what DECODE of the received bytes says (R154). -/
theorem engineStep_decode {s : State} (hseq : s.seq = .decode) :
    engineStep s = .next (endTransaction (decodeBuffer (received s)) s) := by
  obtain ⟨rest, hbuf, hmsg⟩ | ⟨fc, len, checksum, payload, hbuf, hmsg⟩ | ⟨e, hmsg, herr⟩ :=
    decodeMessage_cases (received s)
  · calc engineStep s
      _ = execNop rest s := by simp [engineStep, fetch, hseq, hmsg, exec]
      _ = _ := by rw [execNop, ← hbuf, receiveFrame_decode hseq]
  · calc engineStep s
      _ = exec (wireMessage fc len checksum payload) s := by simp [engineStep, fetch, hseq, hmsg]
      _ = _ := by rw [exec_wireMessage, ← hbuf, receiveFrame_decode hseq]
  · simp [engineStep, fetch, hseq, hmsg, herr, rejectBuffer]

/-- A write to the front of a buffer leaves the bytes behind it. -/
theorem overwrite_zero (buf bs : List Byte) : overwrite buf 0 bs = bs ++ buf.drop bs.length := by
  simp [overwrite]

/-- A frame is the command's reply, and in an OPEN it opens the link whatever it is (R154, R139). -/
theorem endTransaction_ok (f : Frame) (s : State) :
    endTransaction (.ok f) s =
      if s.cmdOp = .openLink then
        { s with outstanding := false, life := .opened, resKind := .ok, seq := .idle }
      else
        { s with
          outstanding := false, resKind := .reply, resFc := f.fc, resLen := BitVec.ofNat 8 f.payload.length
          resPayload := f.payload ++ s.resPayload.drop f.payload.length, seq := .idle } := by
  rw [← overwrite_zero]
  rfl

/-- An error ends the command, and an OPEN through its clean-up state (R154, R139, R190). -/
theorem endTransaction_error (e : DecodeError) (s : State) :
    endTransaction (.error e) s =
      if s.cmdOp = .openLink then
        { s with outstanding := false, resErr := e.kind, resInfo := e.info, seq := .openFail }
      else
        { s with outstanding := false, resKind := .error, resErr := e.kind, resInfo := e.info, seq := .idle } := rfl

/-- Settles O31: the step is the end of the transaction, with a frame or with an error as DECODE answers. -/
theorem decodeStepFollowsDecode : Obligations.DecodeStepFollowsDecode := by
  intro s hseq
  rw [engineStep_decode hseq, received]
  cases decodeBuffer (s.rxbuf.take s.rxLen) with
  | ok f => exact congrArg _ (endTransaction_ok f s)
  | error e => exact congrArg _ (endTransaction_error e s)

/-! ### S_LOOKUP -/

/-- Settles O27: the rate is looked up, and each answer has one outcome. -/
theorem lookupStep : Obligations.LookupStep := by
  intro s hseq
  rw [engineStep_lookup hseq]
  refine ⟨fun hunsupported => ?_, fun ident hsupported => ?_⟩
  · rw [stepLookup, hunsupported]
    rfl
  · rw [stepLookup, hsupported]
    rfl

/-! ### S_TX -/

/-- The operand registers always hold a frame that ENCODE accepts: `cmd_len` has eight bits (R12, R96). -/
theorem commandFrame_encodes (s : State) : ∃ bytes, encodeFrame (commandFrame s) = some bytes := by
  have hfits : (commandFrame s).payload.length ≤ payloadMax :=
    calc (commandFrame s).payload.length
      _ ≤ s.cmdLen.toNat := List.length_take_le ..
      _ ≤ payloadMax := Nat.le_of_lt_succ s.cmdLen.isLt
  obtain ⟨checksum, henc, -⟩ := encodeFrame_eq_some hfits
  exact ⟨_, henc⟩

/-- On a held transport the encoded frame goes out in one write (R155, D20). -/
theorem stepTx_held {s : State} {bytes : List Byte} (hheld : s.xportHeld = true)
    (henc : encodeFrame (commandFrame s) = some bytes) :
    stepTx s = .next (afterWrite ((fillTx bytes s).record (.xportWrite bytes))) := by
  simp [stepTx, henc, xportWrite_held, hheld]

/-- Settles O28: ENCODE answers for the command's frame, and `cmd_sync` decides what follows the write. -/
theorem transmitStep : Obligations.TransmitStep := by
  intro s hseq hheld
  obtain ⟨bytes, henc⟩ := commandFrame_encodes s
  refine ⟨bytes, henc, ?_⟩
  rw [engineStep_tx hseq, stepTx_held hheld henc, ← overwrite_zero]
  cases hsync : s.cmdSync
  case true => simp [afterWrite, hsync]
  case false => simp [afterWrite, hsync, complete, State.setResult, State.goto]

/-! ### S_POLL -/

/-- A latch found set is cleared and the header comes next (R151, R196). -/
theorem stepPoll_latched {s : State} (harmed : s.sigArmed = true) (hlatch : s.readyLatch = true) :
    stepPoll s = .next { s.record (.sigCheck true) with readyLatch := false, seq := .rxHdr } := by
  simp [stepPoll, sigCheck_armed harmed, hlatch, State.goto]

/-- On a clear latch the check writes the history only (R196). -/
theorem sigCheck_clear {s : State} (harmed : s.sigArmed = true) (hlatch : s.readyLatch = false)
    (k : Bool → State → Result) : sigCheck s k = k false (s.record (.sigCheck false)) := by
  have hsame : { s.record (.sigCheck false) with readyLatch := false } = s.record (.sigCheck false) := by
    rw [← hlatch]
    rfl
  rw [sigCheck_armed harmed, hlatch, hsame]

section
variable {s : State} (harmed : s.sigArmed = true) (hlatch : s.readyLatch = false)
include harmed hlatch

theorem stepPoll_noReply (hop : s.cmdOp = .pollReply) :
    stepPoll s = .next { s with resKind := .noReply, seq := .idle, history := s.history ++ [.sigCheck false] } := by
  simp [stepPoll, sigCheck_clear harmed hlatch, hop, complete, State.setResult, State.goto]

theorem stepPoll_unbounded (hop : s.cmdOp ≠ .pollReply) (hbound : s.params.syncTimeoutPolls = none) :
    stepPoll s = .next (pollAgain { s with history := s.history ++ [.sigCheck false] }) := by
  simp [stepPoll, sigCheck_clear harmed hlatch, hop, emptyPoll, hbound, State.record]

theorem stepPoll_below_bound {bound : Nat} (hop : s.cmdOp ≠ .pollReply)
    (hbound : s.params.syncTimeoutPolls = some bound) (hbelow : s.pollCnt + 1 < bound) :
    stepPoll s = .next (pollAgain
      { s with pollCnt := s.pollCnt + 1, history := s.history ++ [.sigCheck false] }) := by
  simp [stepPoll, sigCheck_clear harmed hlatch, hop, emptyPoll, hbound, Nat.not_le.mpr hbelow]

theorem stepPoll_at_bound {bound : Nat} (hop : s.cmdOp ≠ .pollReply)
    (hbound : s.params.syncTimeoutPolls = some bound) (hat : ¬ s.pollCnt + 1 < bound) :
    stepPoll s = .next (raiseError .timeout 0
      { s with pollCnt := s.pollCnt + 1, history := s.history ++ [.sigCheck false] }) := by
  simp [stepPoll, sigCheck_clear harmed hlatch, hop, emptyPoll, hbound, Nat.not_lt.mp hat]

end

/-- From S_POLL, polling again adds at most the pause to the history (R151, R167). -/
theorem pollAgain_of_poll {s : State} (hseq : s.seq = .poll) :
    ∃ pause : List Call, (pause = [] ∨ pause = [.delay s.params.pollGap]) ∧
      pollAgain s = { s with history := s.history ++ pause } := by
  obtain ⟨pause, hpause, hagain⟩ := delay_goto_eq s.params.pollGap .poll s
  exact ⟨pause, hpause, by rw [pollAgain, hagain, ← hseq]⟩

/-- Settles O29: by the latch, the command, and the bound of a synchronous wait; the wait goes on with a pause at
most, or times out through the one delivery of errors. -/
theorem pollStep : Obligations.PollStep := by
  intro s hseq harmed
  rw [engineStep_poll hseq]
  cases hlatch : s.readyLatch with
  | true => exact ⟨_, [], stepPoll_latched harmed hlatch, .inl rfl, rfl, rfl⟩
  | false =>
    by_cases hop : s.cmdOp = .pollReply
    · exact ⟨_, [], stepPoll_noReply harmed hlatch hop, .inl rfl, rfl, by simp [hlatch, hop]⟩
    cases hbound : s.params.syncTimeoutPolls with
    | none =>
      obtain ⟨pause, hpause, hagain⟩ :=
        pollAgain_of_poll (s := { s with history := s.history ++ [.sigCheck false] }) hseq
      rw [stepPoll_unbounded harmed hlatch hop hbound, hagain]
      exact ⟨_, pause, rfl, hpause, by simp, by simp [hop]⟩
    | some bound =>
      by_cases hbelow : s.pollCnt + 1 < bound
      · obtain ⟨pause, hpause, hagain⟩ := pollAgain_of_poll
          (s := { s with pollCnt := s.pollCnt + 1, history := s.history ++ [.sigCheck false] }) hseq
        rw [stepPoll_below_bound harmed hlatch hop hbound hbelow, hagain]
        exact ⟨_, pause, rfl, hpause, by simp, by simp [hlatch, hop, hbelow]⟩
      · rw [stepPoll_at_bound harmed hlatch hop hbound hbelow]
        refine ⟨_, [], rfl, .inl rfl, ?_⟩
        by_cases hopen : s.cmdOp = .openLink
        · simp [raiseError_open, hlatch, hbelow, hopen, failOpen]
        · simp [raiseError_other, hlatch, hop, hbelow, hopen, complete, State.setResult]

/-! ### S_RX_HDR and S_RX_PAY -/

/-- On a held transport the header is read whatever its bytes are, and its length byte says what comes next (R152). -/
theorem stepRxHdr_held {s : State} (hheld : s.xportHeld = true) :
    stepRxHdr s = .next { s with
      readSide := s.readSide.drop 3, draws := s.draws + (3 - s.readSide.length)
      rxbuf := readBytes 3 s ++ s.rxbuf.drop 3, rxLen := 3, history := s.history ++ [.xportRead (readBytes 3 s)]
      seq := if (readBytes 3 s).getD 1 0 = 0 then .decode else .rxPay } := by
  have hlen : (readBytes 3 s).length = 3 := length_readBytes ..
  have hfront : overwrite s.rxbuf 0 (readBytes 3 s) = readBytes 3 s ++ s.rxbuf.drop 3 := by rw [overwrite_zero, hlen]
  have hlength : (overwrite s.rxbuf 0 (readBytes 3 s)).getD 1 0 = (readBytes 3 s).getD 1 0 := by
    rw [hfront, List.getD_append _ _ _ _ (by omega)]
  rw [stepRxHdr, xportRead_held hheld, ← hlength, ← hfront]
  rfl

/-- On a held transport the payload is read to the count of the length byte, behind the header (R153). -/
theorem stepRxPay_held {s : State} (hheld : s.xportHeld = true) :
    stepRxPay s = .next { s with
      readSide := s.readSide.drop (lengthByte s).toNat
      draws := s.draws + ((lengthByte s).toNat - s.readSide.length)
      rxbuf := overwrite s.rxbuf 3 (readBytes (lengthByte s).toNat s), rxLen := 3 + (lengthByte s).toNat
      history := s.history ++ [.xportRead (readBytes (lengthByte s).toNat s)], seq := .decode } := by
  rw [stepRxPay, xportRead_held hheld]
  rfl

/-- Settles O30: what the one read of each state returns has the length asked for, and is what waits while enough
does. -/
theorem receiveSteps : Obligations.ReceiveSteps := by
  intro s hheld
  refine ⟨fun hhdr => ?_, fun hpay => ?_⟩
  · exact ⟨readBytes 3 s, _, length_readBytes .., readBytes_of_le,
      (engineStep_rxHdr hhdr).trans (stepRxHdr_held hheld), rfl⟩
  · have hlen : (readBytes (lengthByte s).toNat s).length = (lengthByte s).toNat := length_readBytes ..
    refine ⟨readBytes (lengthByte s).toNat s, _, hlen, ?_, (engineStep_rxPay hpay).trans (stepRxPay_held hheld), ?_⟩
    · rw [hlen]
      exact readBytes_of_le
    · rw [hlen]
      simp [overwrite, hlen]

end Sys2Proof.Machine
end

section
/-! The encoding for O1, O2 and O3: the eight wire messages are one form with a frame control, and the encoding of each
instruction decodes to it. -/

namespace Sys2Proof

open Sys2Proof.Machine (fieldBytes decodeMessage_cases)

/-- A message is encoded as its fields in offset order (R60). -/
theorem encode_wireMessage (fc : FrameControl) (len checksum : Byte) (payload : List Byte) :
    encode (wireMessage fc len checksum payload) = .wire (fieldBytes fc len checksum payload) := by
  cases fc <;> rfl

/-- Settles O2: a buffer taken for a message is a NOP or the fields of one type, and encoding writes the same bytes. -/
theorem decodedMessageReencodes : Obligations.DecodedMessageReencodes := by
  intro buf i hdecode
  obtain ⟨rest, rfl, hmsg⟩ | ⟨fc, len, checksum, payload, rfl, hmsg⟩ | ⟨e, hmsg, -⟩ := decodeMessage_cases buf
  · obtain rfl := Except.ok.inj (hmsg.symm.trans hdecode)
    rfl
  · obtain rfl := Except.ok.inj (hmsg.symm.trans hdecode)
    exact encode_wireMessage ..
  · cases hmsg.symm.trans hdecode

/-- The ordinal in byte 0 selects the type again (R62, R74). -/
theorem decode_encode_wireMessage (fc : FrameControl) (len checksum : Byte) (payload : List Byte) :
    decode (encode (wireMessage fc len checksum payload)) = .ok (wireMessage fc len checksum payload) := by
  rw [encode_wireMessage, fieldBytes, decode, decodeMessage]
  by_cases hnop : fc = .nop
  · subst hnop
    rfl
  · simp [FrameControl.ordinal_eq_zero, hnop, FrameControl.ofByte_ordinal]

/-- A payload within the contract is not rejected (R73, R96). -/
theorem checkPayload_of_wellFormed {payload : List Byte} (hwf : payloadWellFormed payload = true) (i : Instr) :
    checkPayload payload i = .ok i :=
  if_pos (of_decide_eq_true hwf)

/-- Settles O1: the wire messages by their frame control, the commands by their code; a payload operand passes the
contract, and a frame control comes back from its ordinal. -/
theorem decodeOfEncode : Obligations.DecodeOfEncode := by
  intro i hwf
  cases i with
  | nop rest => rfl
  | reset len checksum payload => exact decode_encode_wireMessage .reset len checksum payload
  | setConfig len checksum payload => exact decode_encode_wireMessage .setConfig len checksum payload
  | pbSdrRequest len checksum payload => exact decode_encode_wireMessage .pbSdrRequest len checksum payload
  | pbSdrReply len checksum payload => exact decode_encode_wireMessage .pbSdrReply len checksum payload
  | pbSdnRequest len checksum payload => exact decode_encode_wireMessage .pbSdnRequest len checksum payload
  | ack len checksum payload => exact decode_encode_wireMessage .ack len checksum payload
  | nack len checksum payload => exact decode_encode_wireMessage .nack len checksum payload
  | openLink | close | pollReply | sendReset | setPhyConfig => rfl
  | sendMessage fc payload sync =>
    calc decode (encode (.sendMessage fc payload sync))
      _ = checkPayload payload (.sendMessage (.ofBits fc.bits) payload sync) := rfl
      _ = .ok (.sendMessage fc payload sync) := by rw [FrameControl.ofBits_bits, checkPayload_of_wellFormed hwf]
  | sendTelegramSdn => exact checkPayload_of_wellFormed hwf _
  | sendTelegramSdr => exact checkPayload_of_wellFormed hwf _

/-- Settles O3: all but one are encodings of well-formed instructions; 09 selects no type and its checksum is right. -/
theorem writtenOutWordsDecode : Obligations.WrittenOutWordsDecode :=
  ⟨decodeOfEncode (.nop []) (by decide), decodeOfEncode (.reset 0x00 0xFE []) (by decide),
    decodeOfEncode (.setConfig 0x01 0xF9 [0x03]) (by decide), decodeOfEncode (.ack 0x00 0xF9 []) (by decide), rfl,
    decodeOfEncode .close rfl, decodeOfEncode (.setPhyConfig 93750) rfl,
    decodeOfEncode (.sendTelegramSdr [0x10] true) (by decide)⟩

end Sys2Proof
end

section
/-! The codec's laws for O4, O5, O8, O9 and O10: FCS by its sum, and when DECODE answers with a frame. -/

namespace Sys2Proof

/-- Settles O4: the accumulator's complement is 255 minus its value; a buffer below three bytes has no byte 2. -/
theorem fcsIsComplementOfSum : Obligations.FcsIsComplementOfSum := by
  refine ⟨fun a b c rest => ?_, fun buf hshort => ?_⟩
  · rw [fcs_cons, Option.some_inj]
    apply BitVec.eq_of_toNat_eq
    simp only [BitVec.toNat_not, BitVec.toNat_ofNat]
    omega
  · match buf with
    | [] | [_] | [_, _] => rfl
    | _ :: _ :: _ :: _ => simp only [List.length_cons, headerLen] at hshort; omega

/-- Settles O5: 255 minus the sum of the other bytes is byte 2 exactly when all together give 255. -/
theorem fcsValidityLaw : Obligations.FcsValidityLaw := by
  intro a b c rest
  rw [fcsIsComplementOfSum.1, Option.some_inj, ← BitVec.toNat_inj]
  simp only [BitVec.toNat_ofNat, byteSum]
  have hc := c.isLt
  omega

/-- ENCODE's value is a buffer with the frame's fields whose byte 2 is its FCS (R94, R95). -/
theorem fields_of_encodeFrame {f : Frame} {buf : List Byte} (h : encodeFrame f = some buf) :
    f.payload.length ≤ payloadMax ∧
      ∃ ck, buf = f.fc.ordinal :: BitVec.ofNat 8 f.payload.length :: ck :: f.payload ∧ fcs buf = some ck := by
  rcases Nat.lt_or_ge payloadMax f.payload.length with hlong | hfits
  · simp [encodeFrame_eq_none hlong] at h
  · obtain ⟨ck, henc, hfcs⟩ := encodeFrame_eq_some hfits
    obtain rfl := Option.some.inj (henc.symm.trans h)
    exact ⟨hfits, ck, rfl, hfcs⟩

/-- The length byte of a payload within the contract counts it (R63). -/
theorem toNat_ofNat_length {payload : List Byte} (hfits : payload.length ≤ payloadMax) :
    (BitVec.ofNat 8 payload.length).toNat = payload.length :=
  Nat.mod_eq_of_lt (Nat.lt_succ_of_le hfits)

/-- DECODE undoes ENCODE, but for the payload of a NOP (R100, C1). -/
theorem decodeBuffer_of_encodeFrame {f : Frame} {buf : List Byte} (h : encodeFrame f = some buf) :
    decodeBuffer buf = .ok (if f.fc = .nop then { fc := .nop, payload := [] } else f) := by
  obtain ⟨hfits, ck, rfl, hfcs⟩ := fields_of_encodeFrame h
  by_cases hnop : f.fc = .nop
  · rw [if_pos hnop, hnop]
    exact decodeBuffer_nop _
  · rw [decodeBuffer_of_ofByte_eq_some (mt FrameControl.ordinal_eq_zero.mp hnop) hfcs
      (FrameControl.ofByte_ordinal f.fc), toNat_ofNat_length hfits]
    simp [hnop]

/-- Settles O8: ENCODE answers, and DECODE undoes it. -/
theorem codecRoundTrip : Obligations.CodecRoundTrip := by
  intro f hfits
  obtain ⟨ck, henc, -⟩ := encodeFrame_eq_some hfits
  exact ⟨_, henc, (length_of_encodeFrame henc).1, decodeBuffer_of_encodeFrame henc⟩

/-- When DECODE answers with a frame: the empty NOP for a buffer that begins with 0, or the frame whose fields the
buffer holds (R97). -/
theorem fields_of_decodeBuffer_ok {buf : List Byte} {f : Frame} (h : decodeBuffer buf = .ok f) :
    f = { fc := .nop, payload := [] } ∨
    (f.payload.length ≤ payloadMax ∧
      ∃ ck, buf = f.fc.ordinal :: BitVec.ofNat 8 f.payload.length :: ck :: f.payload ∧ fcs buf = some ck) := by
  rcases buf with _ | ⟨b0, rest⟩
  · cases h
  by_cases h0 : b0 = 0#8
  · subst h0
    rw [decodeBuffer_nop] at h
    exact .inl (Except.ok.inj h).symm
  rcases rest with _ | ⟨len, _ | ⟨ck, payload⟩⟩
  · cases (decodeBuffer_frameTooSmall h0 (by simp)).symm.trans h
  · cases (decodeBuffer_frameTooSmall h0 (by simp)).symm.trans h
  by_cases hfcs : fcs (b0 :: len :: ck :: payload) = some ck
  case neg => cases (decodeBuffer_checksumMismatch h0 hfcs).symm.trans h
  cases hfc : FrameControl.ofByte b0 with
  | none => cases (decodeBuffer_unknownFrameControl h0 hfcs hfc).symm.trans h
  | some fc =>
    rw [decodeBuffer_of_ofByte_eq_some h0 hfcs hfc] at h
    split at h
    · cases h
    case isFalse hlen =>
      obtain rfl := Except.ok.inj h
      have hlen := not_not.mp hlen
      refine .inr ⟨hlen ▸ Nat.le_of_lt_succ len.isLt, ck, ?_, hfcs⟩
      simp [hlen, FrameControl.ordinal_of_ofByte hfc]

/-- Settles O9: the accepted buffer's byte 2 is its FCS, which is the one byte ENCODE computes. -/
theorem acceptedBufferReencodes : Obligations.AcceptedBufferReencodes := by
  intro buf f hdecode hnop
  obtain rfl | ⟨hfits, ck, rfl, hfcs⟩ := fields_of_decodeBuffer_ok hdecode
  · exact absurd rfl hnop
  · obtain ⟨ck', henc, hfcs'⟩ := encodeFrame_eq_some hfits
    rw [fcs_eq_of_checksum_replaced _ _ ck' ck, hfcs, Option.some_inj] at hfcs'
    rw [henc, hfcs']

/-! ### A flipped bit -/

theorem flipped_byte_ne {b : Byte} {bit : Nat} (hbit : bit < 8) : b ^^^ BitVec.twoPow 8 bit ≠ b := by
  intro hsame
  have := congrArg (BitVec.getLsbD · bit) hsame
  simp [hbit] at this

/-- The sum after one byte was replaced. -/
theorem byteSum_set {buf : List Byte} {i : Nat} (hi : i < buf.length) (b : Byte) :
    byteSum (buf.set i b) + (buf.getD i 0).toNat = byteSum buf + b.toNat := by
  induction buf generalizing i with
  | nil => simp at hi
  | cons b0 rest ih =>
    cases i with
    | zero => simp [byteSum]; omega
    | succ i =>
      have := ih (Nat.lt_of_succ_lt_succ hi)
      simp only [List.set_cons_succ, List.getD_cons_succ, byteSum]
      omega

/-- One flipped bit changes the sum modulo 256: a byte is fixed by its residue. -/
theorem byteSum_flipBit_ne {buf : List Byte} {offset bit : Nat} (hoffset : offset < buf.length) (hbit : bit < 8) :
    byteSum (Machine.flipBit buf offset bit) % 256 ≠ byteSum buf % 256 := by
  intro hsame
  apply flipped_byte_ne (b := buf.getD offset 0) hbit
  have hsum := byteSum_set hoffset (buf.getD offset 0 ^^^ BitVec.twoPow 8 bit)
  rw [Machine.flipBit] at hsame
  apply BitVec.eq_of_toNat_eq
  have hold := (buf.getD offset 0).isLt
  have hnew := (buf.getD offset 0 ^^^ BitVec.twoPow 8 bit).isLt
  omega

/-- With a wrong sum a buffer is accepted as NOP or refused for its checksum (R93, R97). -/
theorem decodeBuffer_of_byteSum_ne {buf : List Byte} (hlen : headerLen ≤ buf.length) (hsum : byteSum buf % 256 ≠ 255) :
    decodeBuffer buf =
      if buf.getD 0 0 = 0#8 then .ok { fc := .nop, payload := [] } else .error .checksumMismatch := by
  match buf with
  | [] | [_] | [_, _] => simp [headerLen] at hlen
  | b0 :: b1 :: b2 :: payload =>
    by_cases h0 : b0 = 0#8
    · subst h0
      exact decodeBuffer_nop _
    · rw [decodeBuffer_checksumMismatch h0 (mt (fcsValidityLaw ..).mp hsum)]
      exact (if_neg h0).symm

/-- Settles O10: the bytes of the frame add up to 255, so with one bit flipped they do not. -/
theorem singleBitFlipIsDetected : Obligations.SingleBitFlipIsDetected := by
  intro f buf offset bit henc _ hoffset hbit
  obtain ⟨-, ck, rfl, hfcs⟩ := fields_of_encodeFrame henc
  have hvalid := (fcsValidityLaw ..).mp hfcs
  apply decodeBuffer_of_byteSum_ne
  · simp [Machine.flipBit, headerLen]
  · rw [← hvalid]
    exact byteSum_flipBit_ne (by simp [headerLen] at hoffset ⊢; omega) hbit

end Sys2Proof
end

section
/-! What a step can do, said once for every statement about all steps: the outcomes of an engine step, state by state
of the sequencer, and the turns of the environment. -/

namespace Sys2Proof.Machine

/-! ### The outcomes of an engine step -/

/-- The sequencer state in which an accepted command starts (R70). -/
def CmdOp.firstSeq : CmdOp → Seq
  | .openLink => .openArm
  | .close => .close
  | .pollReply => .poll
  | .setPhyConfig => .lookup
  | .sendMessage | .sendReset | .sendTelegramSdn | .sendTelegramSdr => .tx

/-- The sequencer is about to call a primitive of a resource that is not held (R42, R196). -/
def State.unheldCall (s : State) : Prop :=
  (s.xportHeld = false ∧ (s.seq = .openXcfg ∨ s.seq = .close ∨ s.seq = .tx ∨ s.seq = .rxHdr ∨ s.seq = .rxPay)) ∨
  (s.sigArmed = false ∧ (s.seq = .openFail ∨ s.seq = .close ∨ s.seq = .poll))

/-- The outcomes of an engine step in `s` (R11): one constructor per branch of a sequencer state, with the fields it
writes. -/
inductive EngineOutcome (s : State) : Result → Prop
  -- S_IDLE
  | waits (hseq : s.seq = .idle) (hhost : s.host = []) : EngineOutcome s (.next s)
  | accepts (hseq : s.seq = .idle) (op : CmdOp) (hgate : gate op s.life = .accepted)
      (fc : FrameControl) (len : BitVec 8) (payload : List Byte)
      (hsize : s.cmdPayload.length = payloadMax → payload.length = payloadMax) (sync : Bool) (baud : BitVec 32)
      (link : Link) (mark : Bool) :
      EngineOutcome s (.next { s with
        host := s.host.tail, cmdOp := op, cmdFc := fc, cmdLen := len, cmdPayload := payload, cmdSync := sync
        cmdBaud := baud, cmdLink := link, overlapped := mark, resKind := .pending, pollCnt := 0
        seq := CmdOp.firstSeq op })
  | answers (hseq : s.seq = .idle) (kind : ResKind) (hkind : kind = .ok ∨ kind = .rejected) (err : ErrorKind)
      (info : Byte) :
      EngineOutcome s (.next { s with host := s.host.tail, resKind := kind, resErr := err, resInfo := info, seq := .idle })
  | refuses (hseq : s.seq = .idle) (port : CommandPort) (rest : List CommandPort) (hhost : s.host = port :: rest)
      (hlong : payloadMax < port.payload.length) : EngineOutcome s (.refused .payloadTooLong)
  -- OPEN
  | arms (hseq : s.seq = .openArm) :
      EngineOutcome s (.next { s with
        sigArmed := true, readyLatch := false, outstanding := false, seq := .openRstLow
        history := s.history ++ [.sigConfigure s.params.sigLineId .rising] })
  | drivesLow (hseq : s.seq = .openRstLow) :
      EngineOutcome s (.next { s with
        rstLine := .low, seq := .openHold, history := s.history ++ [.rstLow s.params.rstLineId] })
  | holds (hseq : s.seq = .openHold) (pause : List Call) (hpause : pause = [] ∨ pause = [.delay s.params.resetHold]) :
      EngineOutcome s (.next { s with seq := .openXopen, history := s.history ++ pause })
  | opens (hseq : s.seq = .openXopen) (answers : List Bool) (draws : Nat) :
      EngineOutcome s (.next { s with
        linkAnswers := answers, draws := draws, xportHeld := true, seq := .openXcfg
        history := s.history ++ [.xportOpen s.cmdLink true] })
  | failsToOpen (hseq : s.seq = .openXopen) (answers : List Bool) (draws : Nat) :
      EngineOutcome s (.next { s with
        linkAnswers := answers, draws := draws, resErr := .transportOpenError, resInfo := 0, seq := .openFail
        history := s.history ++ [.xportOpen s.cmdLink false] })
  | configures (hseq : s.seq = .openXcfg) (answers : List Bool) (draws : Nat) :
      EngineOutcome s (.next { s with
        linkAnswers := answers, draws := draws, seq := .openRstHigh
        history := s.history ++ [.xportConfigure xportWordSize s.params.cpol s.params.cpha s.params.csPol
          s.params.bitOrder s.params.maxClockHz true] })
  | failsToConfigure (hseq : s.seq = .openXcfg) (hheld : s.xportHeld = true) (answers : List Bool) (draws : Nat) :
      EngineOutcome s (.next { s with
        linkAnswers := answers, draws := draws, xportHeld := false
        resErr := .transportConfigError, resInfo := 0, seq := .openFail
        history := s.history ++ [.xportConfigure xportWordSize s.params.cpol s.params.cpha s.params.csPol
          s.params.bitOrder s.params.maxClockHz false, .xportClose] })
  | drivesHigh (hseq : s.seq = .openRstHigh) :
      EngineOutcome s (.next { s with
        rstLine := .high, seq := .openBoot, history := s.history ++ [.rstHigh s.params.rstLineId] })
  | boots (hseq : s.seq = .openBoot) (pause : List Call) (hpause : pause = [] ∨ pause = [.delay s.params.bootWait]) :
      EngineOutcome s (.next { s with seq := .openSwReset, history := s.history ++ pause })
  | preparesSoftReset (hseq : s.seq = .openSwReset) :
      EngineOutcome s (.next { s with cmdFc := .reset, cmdLen := 0, cmdSync := true, seq := .tx })
  | cleansUp (hseq : s.seq = .openFail) (harmed : s.sigArmed = true) :
      EngineOutcome s (.next { s with
        xportHeld := false, sigArmed := false, readyLatch := false, outstanding := false
        resKind := .error, seq := .idle
        history := s.history ++ (if s.xportHeld then [.xportClose] else []) ++ [.sigRelease s.params.sigLineId] })
  -- CLOSE
  | closes (hseq : s.seq = .close) (hheld : s.xportHeld = true) (harmed : s.sigArmed = true) :
      EngineOutcome s (.next { s with
        xportHeld := false, sigArmed := false, readyLatch := false, outstanding := false, life := .closed
        resKind := .ok, seq := .idle
        history := s.history ++ [.xportClose, .sigRelease s.params.sigLineId] })
  -- the transactions
  | findsNoRate (hseq : s.seq = .lookup) :
      EngineOutcome s (.next { s with resKind := .error, resErr := .invalidBaudRate, resInfo := 0, seq := .idle })
  | findsRate (hseq : s.seq = .lookup) (ident : Byte) :
      EngineOutcome s (.next { s with
        cmdFc := .setConfig, cmdLen := 1, cmdPayload := overwrite s.cmdPayload 0 [ident], cmdSync := true
        seq := .tx })
  | sendsAndWaits (hseq : s.seq = .tx) (hsync : s.cmdSync = true) (bytes : List Byte)
      (hlen : bytes.length ≤ frameMax) :
      EngineOutcome s (.next { s with
        txbuf := overwrite s.txbuf 0 bytes, txLen := bytes.length, outstanding := true
        history := s.history ++ [.xportWrite bytes], pollCnt := 0, seq := .poll })
  | sendsAndEnds (hseq : s.seq = .tx) (hsync : s.cmdSync = false) (bytes : List Byte)
      (hlen : bytes.length ≤ frameMax) :
      EngineOutcome s (.next { s with
        txbuf := overwrite s.txbuf 0 bytes, txLen := bytes.length, outstanding := true
        history := s.history ++ [.xportWrite bytes], resKind := .ok, seq := .idle })
  | findsEdge (hseq : s.seq = .poll) (harmed : s.sigArmed = true) :
      EngineOutcome s (.next { s with
        readyLatch := false, seq := .rxHdr, history := s.history ++ [.sigCheck true] })
  | findsNoReply (hseq : s.seq = .poll) (hclear : s.readyLatch = false) (hop : s.cmdOp = .pollReply) :
      EngineOutcome s (.next { s with
        resKind := .noReply, seq := .idle, history := s.history ++ [.sigCheck false] })
  | pollsAgain (hseq : s.seq = .poll) (hclear : s.readyLatch = false) (count : Nat) (pause : List Call)
      (hpause : pause = [] ∨ pause = [.delay s.params.pollGap]) (hwaits : s.cmdOp ≠ .pollReply) :
      EngineOutcome s (.next { s with pollCnt := count, history := s.history ++ .sigCheck false :: pause })
  | timesOut (hseq : s.seq = .poll) (hclear : s.readyLatch = false) (hop : s.cmdOp ≠ .openLink) (count : Nat)
      (hwaits : s.cmdOp ≠ .pollReply) :
      EngineOutcome s (.next { s with
        pollCnt := count, resKind := .error, resErr := .timeout, resInfo := 0, seq := .idle
        history := s.history ++ [.sigCheck false] })
  | timesOutInOpen (hseq : s.seq = .poll) (hclear : s.readyLatch = false) (hop : s.cmdOp = .openLink) (count : Nat) :
      EngineOutcome s (.next { s with
        pollCnt := count, resErr := .timeout, resInfo := 0, seq := .openFail
        history := s.history ++ [.sigCheck false] })
  | readsHeader (hseq : s.seq = .rxHdr) (bytes : List Byte) (hlen : bytes.length = 3) (hmore : bytes.getD 1 0 ≠ 0#8)
      (draws : Nat) :
      EngineOutcome s (.next { s with
        readSide := s.readSide.drop 3, draws := draws, rxbuf := bytes ++ s.rxbuf.drop 3, rxLen := 3
        history := s.history ++ [.xportRead bytes], seq := .rxPay })
  | readsShortFrame (hseq : s.seq = .rxHdr) (bytes : List Byte) (hlen : bytes.length = 3)
      (hshort : bytes.getD 1 0 = 0#8) (draws : Nat) :
      EngineOutcome s (.next { s with
        readSide := s.readSide.drop 3, draws := draws, rxbuf := bytes ++ s.rxbuf.drop 3, rxLen := 3
        history := s.history ++ [.xportRead bytes], seq := .decode })
  | readsPayload (hseq : s.seq = .rxPay) (bytes : List Byte) (hlen : bytes.length = (lengthByte s).toNat)
      (draws : Nat) :
      EngineOutcome s (.next { s with
        readSide := s.readSide.drop (lengthByte s).toNat, draws := draws
        rxbuf := overwrite s.rxbuf 3 bytes, rxLen := 3 + (lengthByte s).toNat
        history := s.history ++ [.xportRead bytes], seq := .decode })
  | opensLink (hseq : s.seq = .decode) (hop : s.cmdOp = .openLink) :
      EngineOutcome s (.next { s with outstanding := false, life := .opened, resKind := .ok, seq := .idle })
  | delivers (hseq : s.seq = .decode) (hop : s.cmdOp ≠ .openLink) (f : Frame)
      (hfits : f.payload.length ≤ payloadMax) :
      EngineOutcome s (.next { s with
        outstanding := false, resKind := .reply, resFc := f.fc, resLen := BitVec.ofNat 8 f.payload.length
        resPayload := overwrite s.resPayload 0 f.payload, seq := .idle })
  | rejects (hseq : s.seq = .decode) (hop : s.cmdOp ≠ .openLink) (kind : ErrorKind) (info : Byte) :
      EngineOutcome s (.next { s with
        outstanding := false, resKind := .error, resErr := kind, resInfo := info, seq := .idle })
  | rejectsInOpen (hseq : s.seq = .decode) (hop : s.cmdOp = .openLink) (kind : ErrorKind) (info : Byte) :
      EngineOutcome s (.next { s with
        outstanding := false, resErr := kind, resInfo := info, seq := .openFail })
  -- a primitive of a resource that is not held
  | faults (h : s.unheldCall) (r : Fault) : EngineOutcome s (.fault r)

/-! ### Every engine step has one of the outcomes -/

section
variable {s : State}

/-- At the gate a command is accepted, or it is over with an answer (R144). -/
theorem accept_outcome (hseq : s.seq = .idle) {op : CmdOp} {load : State → State}
    (haccepted : gate op s.life = .accepted →
      EngineOutcome s (.next (beginCommand op (CmdOp.firstSeq op) (load (takeCommand s))))) :
    EngineOutcome s (accept op load (CmdOp.firstSeq op) (takeCommand s)) := by
  obtain ⟨-, hgate, hnext⟩ | ⟨-, -, hnext⟩ | ⟨-, reason, -, hnext⟩ | ⟨hbusy, -⟩ :=
    accept_cases op load (CmdOp.firstSeq op) (takeCommand s)
  · rw [hnext]
    exact haccepted hgate
  · rw [hnext]
    exact .answers hseq .ok (.inl rfl) _ _
  · rw [hnext]
    exact .answers hseq .rejected (.inr rfl) reason 0
  · exact absurd hseq hbusy

/-- A payload within the contract keeps the size of the register it is copied to (R12). -/
theorem length_overwrite_zero {buf bs : List Byte} {size : Nat} (hfits : bs.length ≤ size) (hsize : buf.length = size) :
    (overwrite buf 0 bs).length = size := by
  rw [length_overwrite (by omega), hsize]

theorem acceptPayload_outcome (hseq : s.seq = .idle) {op : CmdOp} (hfirst : CmdOp.firstSeq op = .tx)
    {fc : FrameControl} {payload : List Byte} {sync : Bool} (hfits : payload.length ≤ payloadMax) :
    EngineOutcome s (acceptPayload op fc payload sync (takeCommand s)) := by
  rw [acceptPayload_of_le hfits, ← hfirst]
  exact accept_outcome hseq fun hgate =>
    .accepts hseq op hgate _ _ _ (length_overwrite_zero hfits) _ _ _ _

/-- What the port holds is a command that keeps the payload contract, or its payload is too long (R70, R73). -/
theorem decodeCommand_cases (port : CommandPort) :
    (∃ i op, decodeCommand port = .ok i ∧ commandOf i = some op ∧ i.wellFormed = true) ∨
    (decodeCommand port = .error .payloadTooLong ∧ payloadMax < port.payload.length) := by
  have hpayload : ∀ i op, commandOf i = some op → i.wellFormed = payloadWellFormed port.payload →
      (∃ i' op', checkPayload port.payload i = .ok i' ∧ commandOf i' = some op' ∧ i'.wellFormed = true) ∨
      (checkPayload port.payload i = .error .payloadTooLong ∧ payloadMax < port.payload.length) := by
    intro i op hop hwf
    rcases Nat.lt_or_ge payloadMax port.payload.length with hlong | hfits
    · exact .inr ⟨by simp [checkPayload, Nat.not_le.mpr hlong], hlong⟩
    · exact .inl ⟨i, op, by simp [checkPayload, hfits], hop, by simp [hwf, payloadWellFormed, hfits]⟩
  unfold decodeCommand
  cases CmdOp.ofCode port.code with
  | openLink | close | pollReply | sendReset | setPhyConfig => exact .inl ⟨_, _, rfl, rfl, rfl⟩
  | sendMessage | sendTelegramSdn | sendTelegramSdr => exact hpayload _ _ rfl rfl

/-- The acceptance of each host command (R13, R70). -/
theorem exec_outcome (hseq : s.seq = .idle) {i : Instr} {op : CmdOp} (hop : commandOf i = some op)
    (hwf : i.wellFormed = true) : EngineOutcome s (exec i (takeCommand s)) := by
  cases i with
  | nop | reset | setConfig | pbSdrRequest | pbSdrReply | pbSdnRequest | ack | nack => simp [commandOf] at hop
  | close => exact accept_outcome hseq fun hgate => .accepts hseq _ hgate _ _ _ id _ _ _ _
  | pollReply => exact accept_outcome hseq fun hgate => .accepts hseq _ hgate _ _ _ id _ _ _ _
  | openLink link =>
    exact accept_outcome (op := .openLink) (load := fun s => { s with cmdLink := link }) hseq fun hgate =>
      .accepts hseq _ hgate _ _ _ id _ _ _ _
  | setPhyConfig baud =>
    exact accept_outcome (op := .setPhyConfig)
      (load := fun s => { noteSend (baudLookup baud).isSome s with cmdBaud := baud }) hseq fun hgate =>
      .accepts hseq _ hgate _ _ _ id _ _ _ _
  | sendReset => exact acceptPayload_outcome (payload := []) hseq rfl (Nat.zero_le _)
  | sendMessage fc payload sync => exact acceptPayload_outcome hseq rfl (of_decide_eq_true hwf)
  | sendTelegramSdn telegram sync => exact acceptPayload_outcome hseq rfl (of_decide_eq_true hwf)
  | sendTelegramSdr telegram sync => exact acceptPayload_outcome hseq rfl (of_decide_eq_true hwf)

/-- The host's command, taken and run (R13). -/
theorem idle_outcome (hseq : s.seq = .idle) : EngineOutcome s (engineStep s) := by
  rcases hhost : s.host with _ | ⟨port, rest⟩
  case nil =>
    have hstep : engineStep s = .next s := by simp [engineStep, fetch, hseq, hhost]
    exact hstep ▸ .waits hseq hhost
  case cons =>
    obtain ⟨i, op, hdecode, hop, hwf⟩ | ⟨hdecode, hlong⟩ := decodeCommand_cases port
    · have hstep : engineStep s = exec i (takeCommand s) := by simp [engineStep, fetch, hseq, hhost, hdecode]
      exact hstep ▸ exec_outcome hseq hop hwf
    · have hstep : engineStep s = .refused .payloadTooLong := by simp [engineStep, fetch, hseq, hhost, hdecode]
      exact hstep ▸ .refuses hseq port rest hhost hlong

/-! #### OPEN and CLOSE -/

theorem engineStep_openXopen (hseq : s.seq = .openXopen) : engineStep s = stepOpenXopen s := by
  simp [engineStep, fetch, hseq]

theorem engineStep_openXcfg (hseq : s.seq = .openXcfg) : engineStep s = stepOpenXcfg s := by
  simp [engineStep, fetch, hseq]

theorem engineStep_openFail (hseq : s.seq = .openFail) : engineStep s = stepOpenFail s := by
  simp [engineStep, fetch, hseq]

theorem engineStep_close (hseq : s.seq = .close) : engineStep s = stepClose s := by
  simp [engineStep, fetch, hseq]

/-- XportOpen with the answer the environment gives (R41, R134). -/
theorem stepOpenXopen_eq (s : State) :
    stepOpenXopen s = .next (
      if nextAnswer s then
        { dropAnswer s with
          xportHeld := true, seq := .openXcfg, history := s.history ++ [.xportOpen s.cmdLink true] }
      else
        { dropAnswer s with
          resErr := .transportOpenError, resInfo := 0, seq := .openFail
          history := s.history ++ [.xportOpen s.cmdLink false] }) := by
  obtain ⟨answers, draws, hdrop⟩ := dropAnswer_eq s
  cases hanswer : nextAnswer s <;>
    simp [stepOpenXopen, xportOpen, hanswer, hdrop, State.goto, State.record, failOpen]

/-- XportConfigure with the answer the environment gives; a failure closes the transport (R41, R135). -/
theorem stepOpenXcfg_held (hheld : s.xportHeld = true) :
    stepOpenXcfg s = .next (
      if nextAnswer s then
        { dropAnswer s with
          seq := .openRstHigh
          history := s.history ++ [.xportConfigure xportWordSize s.params.cpol s.params.cpha s.params.csPol
            s.params.bitOrder s.params.maxClockHz true] }
      else
        { dropAnswer s with
          xportHeld := false, resErr := .transportConfigError, resInfo := 0, seq := .openFail
          history := s.history ++ [.xportConfigure xportWordSize s.params.cpol s.params.cpha s.params.csPol
            s.params.bitOrder s.params.maxClockHz false, .xportClose] }) := by
  obtain ⟨answers, draws, hdrop⟩ := dropAnswer_eq s
  cases hanswer : nextAnswer s <;>
    simp [stepOpenXcfg, xportConfigure, hanswer, hdrop, State.goto, State.record, failOpen, xportClose, hheld]

theorem stepOpenFail_armed (harmed : s.sigArmed = true) :
    stepOpenFail s = .next { s with
      xportHeld := false, sigArmed := false, readyLatch := false, outstanding := false
      resKind := .error, seq := .idle
      history := s.history ++ (if s.xportHeld then [.xportClose] else []) ++
        [.sigRelease s.params.sigLineId] } := by
  cases hheld : s.xportHeld <;>
    simp [stepOpenFail, hheld, releaseAndReport, xportClose, sigRelease, harmed, complete, State.setResult,
      State.goto, State.record]

theorem stepClose_held_armed (hheld : s.xportHeld = true) (harmed : s.sigArmed = true) :
    stepClose s = .next { s with
      xportHeld := false, sigArmed := false, readyLatch := false, outstanding := false, life := .closed
      resKind := .ok, seq := .idle
      history := s.history ++ [.xportClose, .sigRelease s.params.sigLineId] } := by
  simp [stepClose, xportClose_held hheld, sigRelease, harmed, complete, State.setResult, State.goto, State.record]

/-! #### A primitive of a resource that is not held -/

theorem stepOpenFail_not_armed (harmed : s.sigArmed = false) : stepOpenFail s = .fault .signalNotArmed := by
  cases hheld : s.xportHeld <;> simp [stepOpenFail, hheld, releaseAndReport, xportClose, sigRelease, harmed]

theorem stepClose_not_held (hheld : s.xportHeld = false) : stepClose s = .fault .transportNotHeld :=
  xportClose_not_held hheld _

theorem stepClose_not_armed (hheld : s.xportHeld = true) (harmed : s.sigArmed = false) :
    stepClose s = .fault .signalNotArmed := by
  simp [stepClose, xportClose_held hheld, sigRelease, harmed]

theorem stepTx_not_held (hheld : s.xportHeld = false) : stepTx s = .fault .transportNotHeld := by
  obtain ⟨bytes, henc⟩ := commandFrame_encodes s
  simp [stepTx, henc, xportWrite, hheld]

theorem stepPoll_not_armed (harmed : s.sigArmed = false) : stepPoll s = .fault .signalNotArmed :=
  sigCheck_not_armed harmed _

theorem stepRxHdr_not_held (hheld : s.xportHeld = false) : stepRxHdr s = .fault .transportNotHeld :=
  xportRead_not_held hheld _ _

theorem stepRxPay_not_held (hheld : s.xportHeld = false) : stepRxPay s = .fault .transportNotHeld := by
  rw [stepRxPay, xportRead_not_held hheld]

/-! #### The outcomes of OPEN and CLOSE -/

theorem openXopen_outcome (hseq : s.seq = .openXopen) : EngineOutcome s (engineStep s) := by
  obtain ⟨answers, draws, hdrop⟩ := dropAnswer_eq s
  rw [engineStep_openXopen hseq, stepOpenXopen_eq, hdrop]
  split
  · exact .opens hseq answers draws
  · exact .failsToOpen hseq answers draws

theorem openXcfg_outcome (hseq : s.seq = .openXcfg) : EngineOutcome s (engineStep s) := by
  obtain ⟨answers, draws, hdrop⟩ := dropAnswer_eq s
  cases hheld : s.xportHeld with
  | true =>
    rw [engineStep_openXcfg hseq, stepOpenXcfg_held hheld, hdrop]
    split
    · exact .configures hseq answers draws
    · exact .failsToConfigure hseq hheld answers draws
  | false =>
    rw [engineStep_openXcfg hseq]
    cases hanswer : nextAnswer s
    · have hfault : stepOpenXcfg s = .fault .transportNotHeld := by
        simp [stepOpenXcfg, xportConfigure, hanswer, hdrop, xportClose, hheld]
      exact hfault ▸ .faults (.inl ⟨hheld, .inl hseq⟩) _
    · have hnext : stepOpenXcfg s = .next ((xportConfigure s).2.goto .openRstHigh) := by
        simp [stepOpenXcfg, xportConfigure, hanswer]
      rw [hnext, xportConfigure, hanswer, hdrop]
      exact .configures hseq answers draws

theorem openFail_outcome (hseq : s.seq = .openFail) : EngineOutcome s (engineStep s) := by
  rw [engineStep_openFail hseq]
  cases harmed : s.sigArmed with
  | true => exact stepOpenFail_armed harmed ▸ .cleansUp hseq harmed
  | false => exact stepOpenFail_not_armed harmed ▸ .faults (.inr ⟨harmed, .inl hseq⟩) _

theorem close_outcome (hseq : s.seq = .close) : EngineOutcome s (engineStep s) := by
  rw [engineStep_close hseq]
  cases hheld : s.xportHeld with
  | false => exact stepClose_not_held hheld ▸ .faults (.inl ⟨hheld, .inr (.inl hseq)⟩) _
  | true =>
    cases harmed : s.sigArmed with
    | true => exact stepClose_held_armed hheld harmed ▸ .closes hseq hheld harmed
    | false => exact stepClose_not_armed hheld harmed ▸ .faults (.inr ⟨harmed, .inr (.inl hseq)⟩) _

/-! #### The transactions -/

theorem lookup_outcome (hseq : s.seq = .lookup) : EngineOutcome s (engineStep s) := by
  rw [engineStep_lookup hseq, stepLookup]
  split
  · exact .findsNoRate hseq
  · exact .findsRate hseq _

/-- After the write a synchronous send starts its wait (R155). -/
theorem afterWrite_sync (hsync : s.cmdSync = true) :
    afterWrite s = { s with outstanding := true, pollCnt := 0, seq := .poll } := by
  simp [afterWrite, hsync]

/-- After the write an asynchronous send is over (R155). -/
theorem afterWrite_async (hsync : s.cmdSync = false) :
    afterWrite s = { s with outstanding := true, resKind := .ok, seq := .idle } := by
  simp [afterWrite, hsync, complete, State.setResult, State.goto]

theorem tx_outcome (hseq : s.seq = .tx) : EngineOutcome s (engineStep s) := by
  obtain ⟨bytes, henc⟩ := commandFrame_encodes s
  have hlen := (length_of_encodeFrame henc).2
  rw [engineStep_tx hseq]
  cases hheld : s.xportHeld with
  | false => exact stepTx_not_held hheld ▸ .faults (.inl ⟨hheld, .inr (.inr (.inl hseq))⟩) _
  | true =>
    rw [stepTx_held hheld henc]
    cases hsync : s.cmdSync with
    | true => exact afterWrite_sync (s := (fillTx bytes s).record _) hsync ▸ .sendsAndWaits hseq hsync bytes hlen
    | false => exact afterWrite_async (s := (fillTx bytes s).record _) hsync ▸ .sendsAndEnds hseq hsync bytes hlen

/-- The wait goes on (R151, R167). -/
theorem pollAgain_outcome (hseq : s.seq = .poll) (hclear : s.readyLatch = false) (hwaits : s.cmdOp ≠ .pollReply)
    (count : Nat) :
    EngineOutcome s (.next (pollAgain { s with pollCnt := count, history := s.history ++ [.sigCheck false] })) := by
  obtain ⟨pause, hpause, hagain⟩ := pollAgain_of_poll
    (s := { s with pollCnt := count, history := s.history ++ [.sigCheck false] }) hseq
  rw [hagain, List.append_assoc]
  exact .pollsAgain hseq hclear count pause hpause hwaits

theorem poll_outcome (hseq : s.seq = .poll) : EngineOutcome s (engineStep s) := by
  rw [engineStep_poll hseq]
  cases harmed : s.sigArmed with
  | false => exact stepPoll_not_armed harmed ▸ .faults (.inr ⟨harmed, .inr (.inr hseq)⟩) _
  | true =>
    cases hlatch : s.readyLatch with
    | true => exact stepPoll_latched harmed hlatch ▸ .findsEdge hseq harmed
    | false =>
      by_cases hop : s.cmdOp = .pollReply
      · exact stepPoll_noReply harmed hlatch hop ▸ .findsNoReply hseq hlatch hop
      cases hbound : s.params.syncTimeoutPolls with
      | none => exact stepPoll_unbounded harmed hlatch hop hbound ▸ pollAgain_outcome hseq hlatch hop s.pollCnt
      | some bound =>
        by_cases hbelow : s.pollCnt + 1 < bound
        · exact stepPoll_below_bound harmed hlatch hop hbound hbelow ▸ pollAgain_outcome hseq hlatch hop _
        rw [stepPoll_at_bound harmed hlatch hop hbound hbelow]
        by_cases hopen : s.cmdOp = .openLink
        · rw [raiseError_open (by exact hopen)]
          exact .timesOutInOpen hseq hlatch hopen _
        · rw [raiseError_other (by exact hopen)]
          exact .timesOut hseq hlatch hopen _ hop

theorem rxHdr_outcome (hseq : s.seq = .rxHdr) : EngineOutcome s (engineStep s) := by
  rw [engineStep_rxHdr hseq]
  cases hheld : s.xportHeld with
  | false => exact stepRxHdr_not_held hheld ▸ .faults (.inl ⟨hheld, .inr (.inr (.inr (.inl hseq)))⟩) _
  | true =>
    rw [stepRxHdr_held hheld]
    split
    case isTrue hshort => exact .readsShortFrame hseq _ (length_readBytes ..) hshort _
    case isFalse hmore => exact .readsHeader hseq _ (length_readBytes ..) hmore _

theorem rxPay_outcome (hseq : s.seq = .rxPay) : EngineOutcome s (engineStep s) := by
  rw [engineStep_rxPay hseq]
  cases hheld : s.xportHeld with
  | false => exact stepRxPay_not_held hheld ▸ .faults (.inl ⟨hheld, .inr (.inr (.inr (.inr hseq)))⟩) _
  | true => exact stepRxPay_held hheld ▸ .readsPayload hseq _ (length_readBytes ..) _

/-- A frame DECODE accepts has a payload of at most 255 bytes: its length byte counts it (R97). -/
theorem length_of_decodeBuffer_ok {buf : List Byte} {f : Frame} (h : decodeBuffer buf = .ok f) :
    f.payload.length ≤ payloadMax := by
  obtain rfl | ⟨hfits, -⟩ := fields_of_decodeBuffer_ok h
  · exact Nat.zero_le _
  · exact hfits

theorem decode_outcome (hseq : s.seq = .decode) : EngineOutcome s (engineStep s) := by
  rw [engineStep_decode hseq]
  by_cases hop : s.cmdOp = .openLink
  · cases hresult : decodeBuffer (received s) with
    | ok f => rw [endTransaction_ok, if_pos hop]; exact .opensLink hseq hop
    | error e => rw [endTransaction_error, if_pos hop]; exact .rejectsInOpen hseq hop _ _
  · cases hresult : decodeBuffer (received s) with
    | ok f =>
      rw [endTransaction_ok, if_neg hop, ← overwrite_zero]
      exact .delivers hseq hop f (length_of_decodeBuffer_ok hresult)
    | error e => rw [endTransaction_error, if_neg hop]; exact .rejects hseq hop _ _

end

/-- Every engine step, in every state, has one of the outcomes. -/
theorem engineStep_outcome (s : State) : EngineOutcome s (engineStep s) := by
  cases hseq : s.seq with
  | idle => exact idle_outcome hseq
  | openArm => exact engineStep_openArm hseq ▸ .arms hseq
  | openRstLow => exact engineStep_openRstLow hseq ▸ .drivesLow hseq
  | openHold =>
    obtain ⟨pause, hpause, hnext⟩ := delay_goto_eq s.params.resetHold .openXopen s
    rw [engineStep_openHold hseq, stepOpenHold, hnext]
    exact .holds hseq pause hpause
  | openXopen => exact openXopen_outcome hseq
  | openXcfg => exact openXcfg_outcome hseq
  | openRstHigh => exact engineStep_openRstHigh hseq ▸ .drivesHigh hseq
  | openBoot =>
    obtain ⟨pause, hpause, hnext⟩ := delay_goto_eq s.params.bootWait .openSwReset s
    rw [engineStep_openBoot hseq, stepOpenBoot, hnext]
    exact .boots hseq pause hpause
  | openSwReset =>
    rw [engineStep_openSwReset hseq, stepOpenSwReset, loadFrame_nil]
    exact .preparesSoftReset hseq
  | openFail => exact openFail_outcome hseq
  | close => exact close_outcome hseq
  | lookup => exact lookup_outcome hseq
  | tx => exact tx_outcome hseq
  | poll => exact poll_outcome hseq
  | rxHdr => exact rxHdr_outcome hseq
  | rxPay => exact rxPay_outcome hseq
  | decode => exact decode_outcome hseq

end Sys2Proof.Machine
end

section
/-! The turns of the schedule (R10): O42, O44, O45 and O47, and what a step can do, whoever's turn it is. -/

namespace Sys2Proof.Machine

section
variable {s : State} {rest : List Turn}

theorem step_of_schedule_edge (hturn : s.schedule = .edge :: rest) :
    step s = .next { s with schedule := rest, readyLatch := if s.sigArmed then true else s.readyLatch } := by
  cases harmed : s.sigArmed <;> simp [step, takeTurn, hturn, readyEdge, harmed]

theorem step_of_schedule_emit {bytes : List Byte} (hturn : s.schedule = .emit bytes :: rest) :
    step s = .next { s with schedule := rest, readSide := s.readSide ++ bytes } := by
  simp [step, takeTurn, hturn, emitBytes]

theorem step_of_schedule_restock {bytes : List Byte} (hturn : s.schedule = .restock bytes :: rest) :
    step s = .next { s with schedule := rest, readSide := if s.xportHeld then s.readSide else bytes } := by
  cases hheld : s.xportHeld <;> simp [step, takeTurn, hturn, restock, hheld]

theorem step_of_schedule_powerOn (hturn : s.schedule = .powerOn :: rest) :
    step s = .next (powerOnReset { s with schedule := rest }) := by
  simp [step, takeTurn, hturn]

end

/-- Settles O42: the edge's turn. -/
theorem readyEdgeLatches : Obligations.ReadyEdgeLatches := fun _ _ => step_of_schedule_edge

/-- Settles O44: the turns that change what waits on the read side. -/
theorem companionBytesQueue : Obligations.CompanionBytesQueue := fun _ _ _ =>
  ⟨step_of_schedule_emit, step_of_schedule_restock⟩

/-- Settles O45: the power-on turn, with the values every power-on reset gives. -/
theorem powerOnAtAnyTime : Obligations.PowerOnAtAnyTime := fun _ _ hturn =>
  ⟨_, step_of_schedule_powerOn hturn, State.atPowerOn_seq .., State.atPowerOn_life .., State.atPowerOn_sigArmed ..,
    State.atPowerOn_xportHeld .., State.atPowerOn_readyLatch .., State.atPowerOn_outstanding ..,
    State.atPowerOn_pollCnt .., State.atPowerOn_resKind .., rfl, rfl, rfl, rfl, rfl, rfl, rfl⟩

/-- Settles O47: there is nothing to fetch. -/
theorem idleEngineWaits : Obligations.IdleEngineWaits := by
  intro s hseq hhost
  simp [engineStep, fetch, hseq, hhost]

/-- The outcomes of a step in `s`: the engine's turn, or one of the environment's (R10). -/
inductive StepOutcome (s : State) : Result → Prop
  | engine (rest : List Turn) {r : Result} (h : EngineOutcome { s with schedule := rest } r) : StepOutcome s r
  | edge (rest : List Turn) :
      StepOutcome s (.next { s with
        schedule := rest, readyLatch := if s.sigArmed then true else s.readyLatch })
  | bytes (rest : List Turn) (waiting : List Byte) :
      StepOutcome s (.next { s with schedule := rest, readSide := waiting })
  | powerOn (rest : List Turn) (hturn : s.schedule = .powerOn :: rest) :
      StepOutcome s (.next (powerOnReset { s with schedule := rest }))

/-- Every step, in every state, has one of the outcomes. -/
theorem step_outcome (s : State) : StepOutcome s (step s) := by
  rcases hturn : s.schedule with _ | ⟨turn, rest⟩
  case nil =>
    have hsame : { s with schedule := [] } = s := by rw [← hturn]
    exact step_of_schedule_nil hturn ▸ .engine [] (hsame ▸ engineStep_outcome s)
  case cons =>
    cases turn with
    | engine => exact step_of_schedule_engine hturn ▸ .engine rest (engineStep_outcome _)
    | edge => exact step_of_schedule_edge hturn ▸ .edge rest
    | emit bytes => exact step_of_schedule_emit hturn ▸ .bytes rest _
    | restock bytes => exact step_of_schedule_restock hturn ▸ .bytes rest _
    | powerOn => exact step_of_schedule_powerOn hturn ▸ .powerOn rest hturn

theorem engineStep_next {s t : State} (h : engineStep s = .next t) : EngineOutcome s (.next t) :=
  h ▸ engineStep_outcome s

theorem step_next {s t : State} (h : step s = .next t) : StepOutcome s (.next t) := h ▸ step_outcome s

end Sys2Proof.Machine
end

section
/-! The invariant for O50 to O53: what its parts say, and that every engine step keeps each part. -/

namespace Sys2Proof.Machine

section
variable {s t : State}

/-! ### The parts as propositions -/

theorem sized_iff : s.sized = true ↔
    s.cmdPayload.length = payloadMax ∧ s.resPayload.length = payloadMax ∧ s.txbuf.length = frameMax ∧
      s.rxbuf.length = frameMax ∧ s.txLen < 512 ∧ s.rxLen < 512 := by
  simp [State.sized, and_assoc]

theorem pendingWhileBusy_iff : s.pendingWhileBusy = true ↔ (s.resKind = .pending ↔ s.seq ≠ .idle) := by
  by_cases hkind : s.resKind = .pending <;> by_cases hseq : s.seq = .idle <;>
    simp [State.pendingWhileBusy, hkind, hseq]

theorem resourcesHeld_iff : s.resourcesHeld = true ↔
    (s.life = .opened → s.sigArmed = true ∧ s.xportHeld = true ∧ s.rstLine = .high) ∧
      (s.readyLatch = true → s.sigArmed = true) := by
  cases hlife : s.life <;> cases hlatch : s.readyLatch <;> simp [State.resourcesHeld, hlife, hlatch, and_assoc]

theorem opening_iff : s.opening = true ↔ s.cmdOp = .openLink ∧ s.life = .closed := by
  simp [State.opening]

theorem transacting_iff {ops : CmdOp → Bool} : s.transacting ops = true ↔
    (s.opening = true ∧ s.sigArmed = true ∧ s.xportHeld = true ∧ s.rstLine = .high ∧ s.cmdSync = true) ∨
      (s.life = .opened ∧ ops s.cmdOp = true) := by
  simp [State.transacting, and_assoc]

theorem receiving_iff : s.receiving = true ↔
    s.transacting (fun op => op.sends || decide (op = .pollReply)) = true ∧
      (s.cmdSync = true ∨ s.cmdOp = .pollReply) := by
  simp [State.receiving]

theorem inv_iff : s.inv = true ↔
    s.sized = true ∧ s.pendingWhileBusy = true ∧ s.resourcesHeld = true ∧ s.staged = true ∧ s.params.wf = true := by
  simp [State.inv, and_assoc]

/-! ### What the receive path and the transactions rely on -/

/-- A transaction runs on held resources: OPEN has just acquired them, on an open link they are held (R19). -/
theorem held_of_transacting {ops : CmdOp → Bool} (hresources : s.resourcesHeld = true)
    (h : s.transacting ops = true) : s.sigArmed = true ∧ s.xportHeld = true := by
  obtain ⟨-, harmed, hheld, -⟩ | ⟨hopened, -⟩ := transacting_iff.mp h
  · exact ⟨harmed, hheld⟩
  · obtain ⟨harmed, hheld, -⟩ := (resourcesHeld_iff.mp hresources).1 hopened
    exact ⟨harmed, hheld⟩

theorem held_of_receiving (hresources : s.resourcesHeld = true) (h : s.receiving = true) :
    s.sigArmed = true ∧ s.xportHeld = true :=
  held_of_transacting hresources (receiving_iff.mp h).1

/-- In the receive path OPEN is in its soft-reset transaction, on a closed link (R138). -/
theorem opening_of_receiving (h : s.receiving = true) (hop : s.cmdOp = .openLink) :
    s.opening = true ∧ s.sigArmed = true ∧ s.xportHeld = true ∧ s.rstLine = .high := by
  obtain ⟨hopening, harmed, hheld, hline, -⟩ | ⟨-, hother⟩ := transacting_iff.mp (receiving_iff.mp h).1
  · exact ⟨hopening, harmed, hheld, hline⟩
  · simp [hop, CmdOp.sends] at hother

/-- In the receive path every other command runs on an open link (R144). -/
theorem opened_of_receiving (h : s.receiving = true) (hop : s.cmdOp ≠ .openLink) : s.life = .opened := by
  obtain ⟨hopening, -⟩ | ⟨hopened, -⟩ := transacting_iff.mp (receiving_iff.mp h).1
  · exact absurd (opening_iff.mp hopening).1 hop
  · exact hopened

/-- A synchronous send, and the soft reset, starts to receive (R155). -/
theorem receiving_of_sent (h : s.transacting CmdOp.sends = true) (hsync : s.cmdSync = true) : s.receiving = true := by
  refine receiving_iff.mpr ⟨transacting_iff.mpr ?_, .inl hsync⟩
  obtain hopening | ⟨hopened, hsends⟩ := transacting_iff.mp h
  · exact .inl hopening
  · exact .inr ⟨hopened, by simp [hsends]⟩

/-! ### Each part is kept -/

/-- Buffers are written in place. -/
theorem EngineOutcome.sized (h : EngineOutcome s (.next t)) (hsized : s.sized = true) : t.sized = true := by
  obtain ⟨hcmd, hres, htx, hrx, htxLen, hrxLen⟩ := sized_iff.mp hsized
  cases h with
  | accepts _ _ _ _ _ _ hsize => exact sized_iff.mpr ⟨hsize hcmd, hres, htx, hrx, htxLen, hrxLen⟩
  | findsRate =>
    exact sized_iff.mpr ⟨length_overwrite_zero (by simp [payloadMax]) hcmd, hres, htx, hrx, htxLen, hrxLen⟩
  | sendsAndWaits _ _ bytes hlen | sendsAndEnds _ _ bytes hlen =>
    exact sized_iff.mpr ⟨hcmd, hres, length_overwrite_zero hlen htx, hrx, Nat.lt_of_le_of_lt hlen (by decide), hrxLen⟩
  | readsHeader _ bytes hlen | readsShortFrame _ bytes hlen =>
    exact sized_iff.mpr ⟨hcmd, hres, htx, by simp [hlen, hrx, frameMax], htxLen, by simp⟩
  | readsPayload _ bytes hlen =>
    have hbyte := (lengthByte s).isLt
    have hfits : 3 + bytes.length ≤ s.rxbuf.length := by rw [hrx, frameMax]; omega
    exact sized_iff.mpr ⟨hcmd, hres, htx, (length_overwrite hfits).trans hrx, htxLen, by simp only; omega⟩
  | delivers _ _ f hfits =>
    exact sized_iff.mpr ⟨hcmd, length_overwrite_zero hfits hres, htx, hrx, htxLen, hrxLen⟩
  | _ => exact hsized

/-- Acceptance makes the result PENDING, and whatever goes back to S_IDLE writes a result (R13, R17). -/
theorem EngineOutcome.pendingWhileBusy (h : EngineOutcome s (.next t)) (hpending : s.pendingWhileBusy = true) :
    t.pendingWhileBusy = true := by
  rw [pendingWhileBusy_iff] at hpending ⊢
  cases h with
  | accepts _ op => cases op <;> simp [CmdOp.firstSeq]
  | answers _ _ hkind => obtain rfl | rfl := hkind <;> simp
  | _ => simp_all

/-- While a resource is acquired, given back, or the reset line driven low, the link is closed; OPEN opens it with
everything acquired (R19, R138). -/
theorem EngineOutcome.resourcesHeld (h : EngineOutcome s (.next t)) (hheld : s.resourcesHeld = true)
    (hstaged : s.staged = true) : t.resourcesHeld = true := by
  rw [resourcesHeld_iff] at hheld ⊢
  cases h with
  | opensLink hseq hop =>
    obtain ⟨-, harmed, hheld, hline⟩ := opening_of_receiving (by simp_all [State.staged]) hop
    simp [harmed, hheld, hline]
  | _ => simp_all [State.staged, opening_iff]

theorem staged_rxPay_iff (hseq : s.seq = .rxPay) :
    s.staged = true ↔ s.receiving = true ∧ s.rxLen = headerLen ∧ lengthByte s ≠ 0 := by
  simp [State.staged, hseq, and_assoc]

theorem staged_decode_iff (hseq : s.seq = .decode) :
    s.staged = true ↔ s.receiving = true ∧ s.rxLen = headerLen + (lengthByte s).toNat := by
  simp [State.staged, hseq]

theorem receiving_of_staged (hstaged : s.staged = true)
    (hseq : s.seq = .poll ∨ s.seq = .rxHdr ∨ s.seq = .rxPay ∨ s.seq = .decode) : s.receiving = true := by
  obtain hseq | hseq | hseq | hseq := hseq
  · simpa [State.staged, hseq] using hstaged
  · simpa [State.staged, hseq] using hstaged
  · exact ((staged_rxPay_iff hseq).mp hstaged).1
  · exact ((staged_decode_iff hseq).mp hstaged).1

theorem staged_idle_of_opened (hseq : s.seq = .idle) (hopened : s.life = .opened) : s.staged = true := by
  simp [State.staged, hseq, hopened]

theorem staged_openFail_of_opening (hseq : s.seq = .openFail) (hopening : s.opening = true)
    (harmed : s.sigArmed = true) : s.staged = true := by
  simp [State.staged, hseq, hopening, harmed]

/-- The header's length byte is byte 1 of what was read (R63). -/
theorem getD_header {bytes : List Byte} (hlen : bytes.length = 3) (rest : List Byte) :
    (bytes ++ rest).getD 1 0 = bytes.getD 1 0 :=
  List.getD_append _ _ _ _ (by omega)

/-- Each sequencer state hands on what the next one relies on (42_phy_lifecycle.md, 43_phy_transactions.md). -/
theorem EngineOutcome.staged (h : EngineOutcome s (.next t)) (hsized : s.sized = true)
    (hstaged : s.staged = true) : t.staged = true := by
  cases h with
  | accepts _ op hgate =>
    cases op <;> cases hlife : s.life <;>
      simp_all [CmdOp.firstSeq, gate, State.staged, opening_iff, transacting_iff, receiving_iff, CmdOp.sends]
  | findsRate | preparesSoftReset => simp_all [State.staged, opening_iff, transacting_iff, CmdOp.sends]
  | sendsAndWaits hseq hsync =>
    have hsent : s.receiving = true := receiving_of_sent (by simpa [State.staged, hseq] using hstaged) hsync
    exact hsent
  | sendsAndEnds => simp_all [State.staged, transacting_iff]
  | findsEdge hseq =>
    have hreceiving := receiving_of_staged hstaged (.inl hseq)
    exact hreceiving
  | pollsAgain => exact hstaged
  | findsNoReply hseq _ hop =>
    have hopened := opened_of_receiving (receiving_of_staged hstaged (.inl hseq)) (by simp [hop])
    exact staged_idle_of_opened rfl hopened
  | timesOut hseq _ hop =>
    have hopened := opened_of_receiving (receiving_of_staged hstaged (.inl hseq)) hop
    exact staged_idle_of_opened rfl hopened
  | timesOutInOpen hseq _ hop =>
    obtain ⟨hopening, harmed, -⟩ := opening_of_receiving (receiving_of_staged hstaged (.inl hseq)) hop
    exact staged_openFail_of_opening rfl hopening harmed
  | readsHeader hseq bytes hlen hmore =>
    have hreceiving := receiving_of_staged hstaged (.inr (.inl hseq))
    refine (staged_rxPay_iff rfl).mpr ⟨hreceiving, rfl, ?_⟩
    rwa [lengthByte, getD_header hlen]
  | readsShortFrame hseq bytes hlen hshort =>
    have hreceiving := receiving_of_staged hstaged (.inr (.inl hseq))
    refine (staged_decode_iff rfl).mpr ⟨hreceiving, ?_⟩
    rw [lengthByte, getD_header hlen, hshort]
    rfl
  | readsPayload hseq bytes hlen =>
    have hreceiving := receiving_of_staged hstaged (.inr (.inr (.inl hseq)))
    refine (staged_decode_iff rfl).mpr ⟨hreceiving, ?_⟩
    obtain ⟨-, -, -, hrx, -⟩ := sized_iff.mp hsized
    have hheader : 3 ≤ s.rxbuf.length := by simp [hrx, frameMax]
    have hbyte : (overwrite s.rxbuf 3 bytes).getD 1 0 = lengthByte s := getD_overwrite_lt (by decide) hheader 0
    exact congrArg (fun b : Byte => 3 + b.toNat) hbyte.symm
  | delivers hseq hop | rejects hseq hop =>
    have hreceiving := receiving_of_staged hstaged (.inr (.inr (.inr hseq)))
    exact staged_idle_of_opened rfl (opened_of_receiving hreceiving hop)
  | rejectsInOpen hseq hop =>
    obtain ⟨hopening, harmed, -⟩ := opening_of_receiving (receiving_of_staged hstaged (.inr (.inr (.inr hseq)))) hop
    exact staged_openFail_of_opening rfl hopening harmed
  | _ => simp_all [State.staged, opening_iff]

theorem EngineOutcome.params (h : EngineOutcome s (.next t)) : t.params = s.params := by
  cases h <;> rfl

theorem EngineOutcome.inv (h : EngineOutcome s (.next t)) (hinv : s.inv = true) : t.inv = true := by
  obtain ⟨hsized, hpending, hheld, hstaged, hparams⟩ := inv_iff.mp hinv
  exact inv_iff.mpr ⟨h.sized hsized, h.pendingWhileBusy hpending, h.resourcesHeld hheld hstaged,
    h.staged hsized hstaged, by rw [h.params, hparams]⟩

end

/-! ### The invariant -/

/-- Power-on reset gives a state of the invariant, whatever it finds (R28). -/
theorem inv_atPowerOn {params : Params} (hparams : params.wf = true) (n : Nat) (host : List CommandPort)
    (schedule : List Turn) (readSide : List Byte) (linkAnswers : List Bool) (history : List Call) (overlapped : Bool) :
    (State.atPowerOn n params host schedule readSide linkAnswers history overlapped).inv = true := by
  refine inv_iff.mpr ⟨sized_iff.mpr ⟨length_freeBytes .., length_freeBytes .., length_freeBytes .., length_freeBytes ..,
    BitVec.isLt _, BitVec.isLt _⟩, ?_, ?_, ?_, hparams⟩
  · simp [pendingWhileBusy_iff]
  · simp [resourcesHeld_iff]
  · simp [State.staged]

/-- An edge is latched only while the signal is armed (R194). -/
theorem inv_edge {s : State} (hinv : s.inv = true) (rest : List Turn) :
    State.inv { s with schedule := rest, readyLatch := if s.sigArmed then true else s.readyLatch } = true := by
  obtain ⟨hsized, hpending, hheld, hstaged, hparams⟩ := inv_iff.mp hinv
  obtain ⟨hopened, hlatch⟩ := resourcesHeld_iff.mp hheld
  refine inv_iff.mpr ⟨hsized, hpending, resourcesHeld_iff.mpr ⟨hopened, ?_⟩, hstaged, hparams⟩
  cases harmed : s.sigArmed with
  | true => simp
  | false => simpa [harmed] using hlatch

/-- Settles O50: an engine step keeps each part of the invariant, and the environment's turns touch only the latch,
the read side and the schedule. -/
theorem invariantKept : Obligations.InvariantKept := by
  intro s t hinv hstep
  cases step_next hstep with
  | engine rest h => exact h.inv hinv
  | edge rest => exact inv_edge hinv rest
  | bytes rest waiting => exact hinv
  | powerOn rest =>
    obtain ⟨-, -, -, -, hparams⟩ := inv_iff.mp hinv
    exact inv_atPowerOn hparams ..

/-- From the invariant no primitive is called on a resource that is not held (R42, R144, R196). -/
theorem not_unheldCall_of_inv {s : State} (hinv : s.inv = true) : ¬ s.unheldCall := by
  obtain ⟨-, -, hheld, hstaged, -⟩ := inv_iff.mp hinv
  obtain ⟨hopened, -⟩ := resourcesHeld_iff.mp hheld
  rintro (⟨hunheld, hseq⟩ | ⟨hunarmed, hseq⟩)
  · obtain hseq | hseq | hseq | hseq | hseq := hseq
    · simp_all [State.staged]
    · simp_all [State.staged]
    · obtain ⟨-, hhas⟩ := held_of_transacting hheld (by simpa [State.staged, hseq] using hstaged)
      simp [hhas] at hunheld
    · obtain ⟨-, hhas⟩ := held_of_receiving hheld (receiving_of_staged hstaged (.inr (.inl hseq)))
      simp [hhas] at hunheld
    · obtain ⟨-, hhas⟩ := held_of_receiving hheld (receiving_of_staged hstaged (.inr (.inr (.inl hseq))))
      simp [hhas] at hunheld
  · obtain hseq | hseq | hseq := hseq
    · simp_all [State.staged]
    · simp_all [State.staged]
    · obtain ⟨harmed, -⟩ := held_of_receiving hheld (receiving_of_staged hstaged (.inl hseq))
      simp [harmed] at hunarmed

/-- Settles O52: a step that faults is the engine's, about to call a primitive on a resource that is not held. -/
theorem noFaultFromInvariant : Obligations.NoFaultFromInvariant := by
  intro s r hinv hfault
  have houtcome : StepOutcome s (.fault r) := hfault ▸ step_outcome s
  cases houtcome with
  | engine rest h =>
    cases h with
    | faults hunheld => exact not_unheldCall_of_inv hinv hunheld

/-- Settles O53: the engine refuses in S_IDLE only, and only a payload over the contract. -/
theorem refusedOnlyOversized : Obligations.RefusedOnlyOversized := by
  intro s r hrefused
  have houtcome : StepOutcome s (.refused r) := hrefused ▸ step_outcome s
  cases houtcome with
  | engine rest h =>
    cases h with
    | refuses hseq port ports hhost hlong => exact ⟨rfl, hseq, port, ports, hhost, hlong⟩

end Sys2Proof.Machine
end


section
/-! The discipline of reads and the balance of resources for O51, O54 and O55: what the calls an engine step adds to
the history do to the permit and to the tallies. -/

namespace Sys2Proof.Machine

/-! ### The permit -/

theorem readPermit_append (history calls : List Call) :
    readPermit (history ++ calls) = calls.foldl (fun p c => p.bind fun q => q.after c) (readPermit history) :=
  List.foldl_append

/-- A true check permits the header's read, whatever came before (R47). -/
@[simp] theorem ReadPermit.after_sigCheck_true (p : ReadPermit) : p.after (.sigCheck true) = some .header := by
  cases p <;> rfl

/-- Any other call but a read takes the permit back (R223). -/
@[simp] theorem ReadPermit.after_of_ne (p : ReadPermit) {c : Call} (hread : ∀ bytes, c ≠ .xportRead bytes)
    (hcheck : c ≠ .sigCheck true) : p.after c = some .nothing := by
  cases c with
  | xportRead bytes => exact absurd rfl (hread bytes)
  | sigCheck latched =>
    cases latched with
    | true => exact absurd rfl hcheck
    | false => cases p <;> rfl
  | _ => cases p <;> rfl

theorem readsChecked_iff {s : State} : s.readsChecked = true ↔
    ∃ p, readPermit s.history = some p ∧ (s.seq = .rxHdr → p = .header) ∧ (s.seq = .rxPay → p = .payload) := by
  cases hpermit : readPermit s.history <;> simp [State.readsChecked, hpermit, imp_iff_not_or]

/-- The check of S_POLL permits the header, the header's read permits the payload, and no other state reads. -/
theorem EngineOutcome.readsChecked {s t : State} (h : EngineOutcome s (.next t)) (hchecked : s.readsChecked = true) :
    t.readsChecked = true := by
  obtain ⟨p, hpermit, hheader, hpayload⟩ := readsChecked_iff.mp hchecked
  rw [readsChecked_iff]
  cases h with
  | waits => exact ⟨p, hpermit, hheader, hpayload⟩
  | accepts _ op => cases op <;> simp [CmdOp.firstSeq, hpermit]
  | holds _ pause hpause | boots _ pause hpause =>
    obtain rfl | rfl := hpause <;> simp [readPermit_append, hpermit]
  | pollsAgain hseq _ _ pause hpause => obtain rfl | rfl := hpause <;> simp [readPermit_append, hpermit, hseq]
  | cleansUp => cases s.xportHeld <;> simp [readPermit_append, hpermit]
  | readsHeader hseq bytes hlen | readsShortFrame hseq bytes hlen =>
    simp [readPermit_append, hpermit, hheader hseq, ReadPermit.after, hlen]
  | readsPayload hseq => simp [readPermit_append, hpermit, hpayload hseq, ReadPermit.after]
  | _ => simp [readPermit_append, hpermit]

/-- Settles O54: only the engine calls, and its step keeps the discipline; power-on reset leaves S_RX_HDR and S_RX_PAY. -/
theorem readsAreChecked : Obligations.ReadsAreChecked := by
  intro s t hchecked hstep
  cases step_next hstep with
  | engine rest h => exact h.readsChecked hchecked
  | edge rest => exact hchecked
  | bytes rest waiting => exact hchecked
  | powerOn rest =>
    obtain ⟨p, hpermit, -⟩ := readsChecked_iff.mp hchecked
    exact readsChecked_iff.mpr ⟨p, hpermit, by simp [powerOnReset], by simp [powerOnReset]⟩

/-! ### The tallies -/

@[simp] theorem tally_append (weight : Call → Int) (history calls : List Call) :
    tally weight (history ++ calls) = tally weight history + tally weight calls := by
  induction history with
  | nil => simp [tally]
  | cons c rest ih => simp [tally, ih, add_assoc]

theorem balanced_iff {s : State} : s.balanced = true ↔
    tally Call.transportDelta s.history = (if s.xportHeld then 1 else 0) ∧
      tally Call.signalDelta s.history = if s.sigArmed then 1 else 0 := by
  simp [State.balanced]

/-- A resource is acquired only while it is not held and given back only while it is (R42, R140, R142). -/
theorem EngineOutcome.balanced {s t : State} (h : EngineOutcome s (.next t)) (hstaged : s.staged = true)
    (hbalanced : s.balanced = true) : t.balanced = true := by
  obtain ⟨htransport, hsignal⟩ := balanced_iff.mp hbalanced
  rw [balanced_iff]
  cases h with
  | arms => simp_all [State.staged, tally, Call.transportDelta, Call.signalDelta]
  | opens => simp_all [State.staged, tally, Call.transportDelta, Call.signalDelta]
  | holds _ pause hpause | boots _ pause hpause | pollsAgain _ _ _ pause hpause =>
    obtain rfl | rfl := hpause <;> simp [tally, htransport, hsignal, Call.transportDelta, Call.signalDelta]
  | cleansUp _ harmed =>
    cases hheld : s.xportHeld <;>
      simp [tally, htransport, hsignal, hheld, harmed, Call.transportDelta, Call.signalDelta]
  | closes _ hheld harmed => simp [tally, htransport, hsignal, hheld, harmed, Call.transportDelta, Call.signalDelta]
  | failsToConfigure _ hheld => simp [tally, htransport, hsignal, hheld, Call.transportDelta, Call.signalDelta]
  | _ => simp [tally, htransport, hsignal, Call.transportDelta, Call.signalDelta]

/-- Settles O55: the environment calls nothing and, but for power-on reset, takes no resource away. -/
theorem resourcesBalanced : Obligations.ResourcesBalanced := by
  intro s t hinv hbalanced hpower hstep
  obtain ⟨-, -, -, hstaged, -⟩ := inv_iff.mp hinv
  cases step_next hstep with
  | engine rest h => exact h.balanced hstaged hbalanced
  | edge rest => exact hbalanced
  | bytes rest waiting => exact hbalanced
  | powerOn rest hturn => exact absurd hturn (hpower rest)

/-- Settles O51: reset is a power-on reset with an empty history. -/
theorem invariantsAtReset : Obligations.InvariantsAtReset :=
  ⟨inv_atPowerOn rfl .., readsChecked_iff.mpr ⟨.nothing, rfl, nofun, nofun⟩, balanced_iff.mpr ⟨rfl, rfl⟩, rfl⟩

end Sys2Proof.Machine
end

section
/-! What changes what, for O43, O49 and O56 to O60: rules over every step, each read off the outcomes. -/

namespace Sys2Proof.Machine

/-! ### Engine steps -/

section
variable {s t : State}

/-- The latch is cleared by a check, the configuration or the release of the signal (R20, R194). -/
theorem EngineOutcome.clears_latch (h : EngineOutcome s (.next t)) (hset : s.readyLatch = true)
    (hclear : t.readyLatch = false) : s.seq = .poll ∨ s.seq = .openArm ∨ s.seq = .openFail ∨ s.seq = .close := by
  cases h with
  | findsEdge hseq | findsNoReply hseq | pollsAgain hseq | timesOut hseq | timesOutInOpen hseq => exact .inl hseq
  | arms hseq => exact .inr (.inl hseq)
  | cleansUp hseq => exact .inr (.inr (.inl hseq))
  | closes hseq => exact .inr (.inr (.inr hseq))
  | _ => simp [hset] at hclear

/-- `life` is written at the end of a good OPEN and in CLOSE (R18). -/
theorem EngineOutcome.changes_life (h : EngineOutcome s (.next t)) (hlife : t.life ≠ s.life) :
    (s.seq = .decode ∧ s.cmdOp = .openLink ∧ t.life = .opened ∧ t.resKind = .ok) ∨
      (s.seq = .close ∧ t.life = .closed ∧ t.resKind = .ok) := by
  cases h with
  | opensLink hseq hop => exact .inl ⟨hseq, hop, rfl, rfl⟩
  | closes hseq => exact .inr ⟨hseq, rfl, rfl⟩
  | _ => exact absurd rfl hlife

/-- The reset line is driven in two states of OPEN (R21). -/
theorem EngineOutcome.changes_rstLine (h : EngineOutcome s (.next t)) (hline : t.rstLine ≠ s.rstLine) :
    (s.seq = .openRstLow ∧ t.rstLine = .low) ∨ (s.seq = .openRstHigh ∧ t.rstLine = .high) := by
  cases h with
  | drivesLow hseq => exact .inl ⟨hseq, rfl⟩
  | drivesHigh hseq => exact .inr ⟨hseq, rfl⟩
  | _ => exact absurd rfl hline

/-- NO_REPLY is the answer of a POLL_REPLY that finds the latch clear (R162). -/
theorem EngineOutcome.answers_noReply (h : EngineOutcome s (.next t)) (hnow : t.resKind = .noReply)
    (hbefore : s.resKind ≠ .noReply) : s.cmdOp = .pollReply ∧ s.seq = .poll ∧ s.readyLatch = false := by
  cases h with
  | findsNoReply hseq hclear hop => exact ⟨hop, hseq, hclear⟩
  | answers _ _ hkind => obtain rfl | rfl := hkind <;> cases hnow
  | _ => simp_all

end

/-- Settles O49: only acceptance, in S_IDLE, writes the command; S_LOOKUP and S_OPEN_SWRESET set up their frame. -/
theorem commandSampledOnce : Obligations.CommandSampledOnce := by
  intro s t hbusy hstep
  cases engineStep_next hstep with
  | waits hseq | accepts hseq | answers hseq => exact absurd hseq hbusy
  | findsRate hseq | preparesSoftReset hseq => simp [hseq]
  | _ => exact ⟨rfl, rfl, rfl, rfl, rfl, rfl, rfl, fun _ _ => ⟨rfl, rfl, rfl, rfl⟩⟩

/-- Settles O43: by the engine's rule; the environment's turns but power-on reset only set the latch. -/
theorem latchHeldUntilCleared : Obligations.LatchHeldUntilCleared := by
  intro s t hstep hset hclear
  cases step_next hstep with
  | engine rest h =>
    obtain hseq | hseq | hseq | hseq := h.clears_latch hset hclear
    · exact .inl hseq
    · exact .inr (.inl hseq)
    · exact .inr (.inr (.inl hseq))
    · exact .inr (.inr (.inr (.inl hseq)))
  | edge rest => simp [hset] at hclear
  | bytes rest waiting => simp [hset] at hclear
  | powerOn rest hturn => exact .inr (.inr (.inr (.inr ⟨rest, hturn⟩)))

/-- Settles O57: by the engine's rule; the environment's turns but power-on reset leave `life`. -/
theorem lifeChangesOnly : Obligations.LifeChangesOnly := by
  intro s t hstep hlife
  cases step_next hstep with
  | engine rest h =>
    obtain hopen | hclose := h.changes_life hlife
    · exact .inl hopen
    · exact .inr (.inl hclose)
  | edge rest | bytes rest waiting => exact absurd rfl hlife
  | powerOn rest hturn => exact .inr (.inr ⟨rest, hturn⟩)

/-- Settles O58: by the engine's rule; the environment's turns but power-on reset leave the line. -/
theorem resetLineWrittenOnlyByOpen : Obligations.ResetLineWrittenOnlyByOpen := by
  intro s t hstep hline
  cases step_next hstep with
  | engine rest h =>
    obtain hlow | hhigh := h.changes_rstLine hline
    · exact .inl hlow
    · exact .inr (.inl hhigh)
  | edge rest | bytes rest waiting => exact absurd rfl hline
  | powerOn rest hturn => exact .inr (.inr ⟨rest, hturn⟩)

/-- Settles O60: by the engine's rule; the environment's turns leave the result or set it to OK. -/
theorem noReplyOnlyFromPollReply : Obligations.NoReplyOnlyFromPollReply := by
  intro s t hstep hnow hbefore
  cases step_next hstep with
  | engine rest h => exact h.answers_noReply hnow hbefore
  | edge rest | bytes rest waiting => exact absurd hnow hbefore
  | powerOn rest hturn => cases hnow

/-! ### From the invariant -/

/-- Settles O56: both states give everything back; an OPEN that fails is still on a closed link. -/
theorem failedOpenAndCloseReleaseAll : Obligations.FailedOpenAndCloseReleaseAll := by
  intro s t hinv hseq hstep
  obtain ⟨-, -, -, hstaged, -⟩ := inv_iff.mp hinv
  cases engineStep_next hstep with
  | cleansUp hseq => simp_all [State.staged, opening_iff]
  | closes hseq => simp [hseq]
  | _ => simp_all

/-- A buffer with a header whose length byte is right fails neither length test of DECODE (R97). -/
theorem decodeBuffer_of_length_eq {b0 b1 b2 : Byte} {payload : List Byte} (hlen : payload.length = b1.toNat) :
    decodeBuffer (b0 :: b1 :: b2 :: payload) ≠ .error .frameTooSmall ∧
      decodeBuffer (b0 :: b1 :: b2 :: payload) ≠ .error .payloadLengthMismatch := by
  by_cases h0 : b0 = 0#8
  · subst h0
    simp [decodeBuffer_nop]
  by_cases hfcs : fcs (b0 :: b1 :: b2 :: payload) = some b2
  case neg => simp [decodeBuffer_checksumMismatch h0 hfcs]
  cases hfc : FrameControl.ofByte b0 with
  | none => simp [decodeBuffer_unknownFrameControl h0 hfcs hfc]
  | some fc => simp [decodeBuffer_of_ofByte_eq_some h0 hfcs hfc, hlen]

/-- Settles O59: the bytes received are a header and as many bytes as its length byte counts. -/
theorem receivePathErrors : Obligations.ReceivePathErrors := by
  intro s hinv hseq
  obtain ⟨hsized, -, -, hstaged, -⟩ := inv_iff.mp hinv
  obtain ⟨-, -, -, hrx, -⟩ := sized_iff.mp hsized
  obtain ⟨-, hrxLen⟩ := (staged_decode_iff hseq).mp hstaged
  match hbuf : s.rxbuf with
  | [] | [_] | [_, _] => simp [hbuf, frameMax] at hrx
  | b0 :: b1 :: b2 :: rest =>
    have hbyte : lengthByte s = b1 := by simp [lengthByte, hbuf]
    have hrest : rest.length = 255 := by simpa [hbuf, frameMax] using hrx
    have hreceived : (b0 :: b1 :: b2 :: rest).take s.rxLen = b0 :: b1 :: b2 :: rest.take b1.toNat := by
      rw [hrxLen, hbyte, headerLen, Nat.add_comm]
      rfl
    rw [hreceived]
    apply decodeBuffer_of_length_eq
    have := b1.isLt
    rw [List.length_take, hrest]
    omega

/-- A POLL_REPLY that runs is in the receive path (R150). -/
theorem seq_of_pollReply {s : State} (hstaged : s.staged = true) (hop : s.cmdOp = .pollReply) (hbusy : s.seq ≠ .idle) :
    s.seq = .poll ∨ s.seq = .rxHdr ∨ s.seq = .rxPay ∨ s.seq = .decode := by
  cases hseq : s.seq with
  | idle => exact absurd hseq hbusy
  | poll | rxHdr | rxPay | decode => simp
  | _ => simp [State.staged, hseq, opening_iff, transacting_iff, hop, CmdOp.sends] at hstaged

/-- Settles O41: each outcome in the receive path but another pass of S_POLL goes on towards S_IDLE, and a POLL_REPLY
makes one pass only. -/
theorem pollReplyNeverBlocks : Obligations.PollReplyNeverBlocks := by
  intro s hinv hop hbusy
  obtain ⟨-, -, -, hstaged, -⟩ := inv_iff.mp hinv
  have hpath := seq_of_pollReply hstaged hop hbusy
  have houtcome := engineStep_outcome s
  generalize engineStep s = r at houtcome
  cases houtcome with
  | findsEdge hseq | findsNoReply hseq | readsHeader hseq | readsShortFrame hseq | readsPayload hseq | delivers hseq
  | rejects hseq =>
    exact ⟨by simp [pollReplyLeft, hseq], _, rfl, by simp [pollReplyLeft, hseq], hop, by simp [pollReplyLeft]⟩
  | pollsAgain _ _ _ _ _ hwaits | timesOut _ _ _ _ hwaits => exact absurd hop hwaits
  | timesOutInOpen _ _ hopen | opensLink _ hopen | rejectsInOpen _ hopen => simp [hop] at hopen
  | faults hunheld => exact absurd hunheld (not_unheldCall_of_inv hinv)
  | _ => simp_all

/-- Settles O24: the one outcome of an armed S_OPEN_FAIL. -/
theorem openFailReleases : Obligations.OpenFailReleases := fun _ hseq harmed =>
  (engineStep_openFail hseq).trans (stepOpenFail_armed harmed)

end Sys2Proof.Machine
end

section
/-! The commands at the gate for O13 to O15 and O17 to O19: every host command is an acceptance, and what an accepted
one writes. -/

namespace Sys2Proof.Machine

section
variable {s : State} {op : CmdOp} {i : Instr}

/-! ### Every host command is an acceptance -/

theorem exec_openLink (link : Link) (s : State) :
    exec (.openLink link) s = accept .openLink (fun s => { s with cmdLink := link }) .openArm s := rfl

theorem exec_setPhyConfig (baud : BitVec 32) (s : State) :
    exec (.setPhyConfig baud) s =
      accept .setPhyConfig (fun s => { noteSend (baudLookup baud).isSome s with cmdBaud := baud }) .lookup s := rfl

/-- A well-formed command goes to the gate with its own operands and first state (R13, R70). -/
theorem exec_command (hop : commandOf i = some op) (hwf : i.wellFormed = true) (s : State) :
    ∃ load, exec i s = accept op load (CmdOp.firstSeq op) s := by
  cases i with
  | nop | reset | setConfig | pbSdrRequest | pbSdrReply | pbSdnRequest | ack | nack => cases hop
  | openLink link => cases hop; exact ⟨_, exec_openLink link s⟩
  | setPhyConfig baud => cases hop; exact ⟨_, exec_setPhyConfig baud s⟩
  | close | pollReply => cases hop; exact ⟨_, rfl⟩
  | sendReset => cases hop; exact ⟨_, acceptPayload_of_le (p := []) (Nat.zero_le _)⟩
  | sendMessage | sendTelegramSdn | sendTelegramSdr =>
    cases hop
    exact ⟨_, acceptPayload_of_le (of_decide_eq_true hwf)⟩

/-- Every wire message is received as a frame (R110). -/
theorem exec_message (hop : commandOf i = none) (s : State) : ∃ bytes, exec i s = receiveFrame bytes s := by
  cases i with
  | nop | reset | setConfig | pbSdrRequest | pbSdrReply | pbSdnRequest | ack | nack => exact ⟨_, rfl⟩
  | _ => cases hop

theorem accept_of_busy {load : State → State} {first : Seq} (hbusy : s.seq ≠ .idle) :
    accept op load first s = .next s := by
  simp [accept, hbusy]

theorem accept_of_rejected {load : State → State} {first : Seq} {reason : ErrorKind} (hseq : s.seq = .idle)
    (hgate : gate op s.life = .rejected reason) :
    accept op load first s = .next (complete (.rejected reason) s) := by
  simp [accept, hseq, hgate]

/-- A rejection writes result registers only, and an idle engine stays idle (R192; log 10). -/
theorem complete_rejected_of_idle (hseq : s.seq = .idle) (reason : ErrorKind) :
    { complete (.rejected reason) s with resInfo := s.resInfo } =
      { s with resKind := .rejected, resErr := reason } := by
  rw [complete, goto_eq_self (show (s.setResult (.rejected reason)).seq = .idle from hseq)]
  rfl

/-- Settles O18: no command passes a busy engine, and no frame is decoded outside S_DECODE. -/
theorem nothingRunsOutOfTurn : Obligations.NothingRunsOutOfTurn := by
  intro i s hwf
  refine ⟨fun ⟨op, hop⟩ hbusy => ?_, fun hop hseq => ?_⟩
  · obtain ⟨load, hexec⟩ := exec_command hop hwf s
    rw [hexec, accept_of_busy hbusy]
  · obtain ⟨bytes, hexec⟩ := exec_message hop s
    rw [hexec, receiveFrame, if_neg hseq]

/-- Settles O17: the contract is tested before the gate. -/
theorem oversizedPayloadRefused : Obligations.OversizedPayloadRefused := by
  intro s p fc sync hlong
  have hrefused : ∀ op fc, acceptPayload op fc p sync s = .refused .payloadTooLong := by
    simp [acceptPayload, Nat.not_le.mpr hlong]
  exact ⟨hrefused .., hrefused .., hrefused ..⟩

/-- Settles O15: the gate's answer decides, whatever the operands are. -/
theorem gateTable : Obligations.GateTable := by
  intro i op s hop hwf hseq
  obtain ⟨load, hexec⟩ := exec_command hop hwf s
  rw [hexec]
  have hrejected : ∀ reason, gate op s.life = .rejected reason →
      ∃ t, accept op load (CmdOp.firstSeq op) s = .next t ∧
        { t with resInfo := s.resInfo } = { s with resKind := .rejected, resErr := reason } := fun reason hgate =>
    ⟨_, accept_of_rejected hseq hgate, complete_rejected_of_idle hseq reason⟩
  have haccepted : gate op s.life = .accepted →
      ∃ t, accept op load (CmdOp.firstSeq op) s = .next t ∧ t.resKind = .pending ∧ t.seq = CmdOp.firstSeq op :=
    fun hgate => ⟨_, accept_of_gate hseq hgate, rfl, rfl⟩
  cases hlife : s.life with
  | closed =>
    rw [hlife] at hrejected haccepted
    cases op with
    | openLink =>
      obtain ⟨t, hnext, hkind, hfirst⟩ := haccepted rfl
      exact ⟨t, hnext, hfirst, hkind⟩
    | close =>
      have hgate : gate .close s.life = .nothingToDo := by rw [hlife]; rfl
      rw [accept_of_nothingToDo hseq hgate, complete_ok_of_idle hseq, hlife]
    | _ => exact hrejected .notOpen rfl
  | opened =>
    rw [hlife] at hrejected haccepted
    cases op with
    | openLink => exact hrejected .alreadyOpen rfl
    | close =>
      obtain ⟨t, hnext, hkind, hfirst⟩ := haccepted rfl
      exact ⟨t, hnext, hfirst, hkind⟩
    | _ => exact haccepted rfl

/-! ### What acceptance writes -/

/-- Settles O13: the gate accepts both, and acceptance writes the command and its bookkeeping. -/
theorem lifecycleCommandsAccepted : Obligations.LifecycleCommandsAccepted := by
  intro s link hseq
  refine ⟨fun hclosed => ?_, fun hopened => ?_⟩
  · have hgate : gate .openLink s.life = .accepted := by rw [hclosed]; rfl
    exact (exec_openLink link s).trans (accept_of_gate hseq hgate)
  · have hgate : gate .close s.life = .accepted := by rw [hopened]; rfl
    exact accept_of_gate hseq hgate

/-- On an open link the gate accepts every transaction command (R144). -/
theorem gate_of_opened (hopened : s.life = .opened) (hopen : op ≠ .openLink) : gate op s.life = .accepted := by
  rw [hopened]
  cases op with
  | openLink => exact absurd rfl hopen
  | _ => rfl

/-- A send accepted: its operands, the mark of R216, and the bookkeeping (R13). -/
theorem acceptPayload_of_gate (hseq : s.seq = .idle) (hgate : gate op s.life = .accepted) {payload : List Byte}
    (hfits : payload.length ≤ payloadMax) (fc : FrameControl) (sync : Bool) :
    acceptPayload op fc payload sync s = .next { s with
      cmdOp := op, cmdFc := fc, cmdLen := BitVec.ofNat 8 payload.length
      cmdPayload := payload ++ s.cmdPayload.drop payload.length, cmdSync := sync
      overlapped := s.overlapped || s.outstanding, resKind := .pending, pollCnt := 0, seq := .tx } := by
  rw [acceptPayload_of_le hfits, accept_of_gate hseq hgate, ← overwrite_zero]
  rfl

/-- Settles O14: the gate accepts all six, five of them as sends. -/
theorem transactionCommandsAccepted : Obligations.TransactionCommandsAccepted := by
  intro s hseq hopened
  have hgate : ∀ {op}, op ≠ .openLink → gate op s.life = .accepted := gate_of_opened hopened
  exact ⟨accept_of_gate hseq (hgate (by decide)),
    fun fc p sync hfits => acceptPayload_of_gate hseq (hgate (by decide)) hfits fc sync,
    acceptPayload_of_gate hseq (hgate (by decide)) (payload := []) (Nat.zero_le _) .reset true,
    fun baud => (exec_setPhyConfig baud s).trans (accept_of_gate hseq (hgate (by decide))),
    fun p sync hfits => acceptPayload_of_gate hseq (hgate (by decide)) hfits .pbSdnRequest sync,
    fun p sync hfits => acceptPayload_of_gate hseq (hgate (by decide)) hfits .pbSdrRequest sync⟩

/-- Settles O19: both sides accept the same frame; SET_PHY_CONFIG first looks its rate up. -/
theorem pseudoCommandsExpand : Obligations.PseudoCommandsExpand := by
  intro s hseq hopened
  obtain ⟨-, hmessage, hreset, hconfig, hsdn, hsdr⟩ := transactionCommandsAccepted s hseq hopened
  refine ⟨?reset, fun p sync hfits => ⟨?sdn, ?sdr⟩, fun rate hnone => ?unsupported, fun rate ident hsome => ?supported⟩
  case reset => rw [hreset, hmessage .reset [] true (Nat.zero_le _)]; rfl
  case sdn => rw [hsdn p sync hfits, hmessage _ p sync hfits]; rfl
  case sdr => rw [hsdr p sync hfits, hmessage _ p sync hfits]; rfl
  case unsupported =>
    refine ⟨_, _, hconfig rate, (lookupStep _ rfl).1 hnone, ?_⟩
    simp [hnone, hseq]
  case supported =>
    refine ⟨_, _, hconfig rate, (lookupStep _ rfl).2 ident hsome, ?_⟩
    rw [hmessage .setConfig [ident] true (by simp [payloadMax])]
    simp [hsome]

end

end Sys2Proof.Machine
end

section
/-! The received messages for O32, O33 and O48, and the two steps of OPEN with an answer of the environment, for O22
and O23. -/

namespace Sys2Proof.Machine

/-! ### Messages -/

/-- A message with the right length and checksum is decoded to its frame (R97). -/
theorem decodeBuffer_of_frameWellFormed {fc : FrameControl} {len checksum : Byte} {payload : List Byte}
    (hnop : fc ≠ .nop) (hwf : frameWellFormed fc len checksum payload = true) :
    decodeBuffer (fieldBytes fc len checksum payload) = .ok { fc := fc, payload := payload } := by
  obtain ⟨hlen, hfcs⟩ : payload.length = len.toNat ∧
      fcs (fc.ordinal :: len :: checksum :: payload) = some checksum := by
    simpa [frameWellFormed] using hwf
  rw [fieldBytes, decodeBuffer_of_ofByte_eq_some (mt FrameControl.ordinal_eq_zero.mp hnop) hfcs
    (FrameControl.ofByte_ordinal fc), if_neg (not_not.mpr hlen)]

/-- Each well-formed message is received as bytes that DECODE takes for the frame it delivers (R111 to R118). -/
theorem exec_delivered {i : Instr} {f : Frame} (hframe : deliveredFrame i = some f) (hwf : i.wellFormed = true)
    (s : State) : ∃ bytes, exec i s = receiveFrame bytes s ∧ decodeBuffer bytes = .ok f := by
  cases i with
  | nop rest => cases hframe; exact ⟨_, rfl, decodeBuffer_nop rest⟩
  | reset | setConfig | pbSdrRequest | pbSdrReply | pbSdnRequest | ack | nack =>
    cases hframe
    exact ⟨_, rfl, decodeBuffer_of_frameWellFormed (by decide) hwf⟩
  | _ => cases hframe

/-- Settles O32: DECODE answers with the message's frame, which ends the transaction. -/
theorem wireMessagesDelivered : Obligations.WireMessagesDelivered := by
  intro i f s hframe hwf hseq
  obtain ⟨bytes, hexec, hdecode⟩ := exec_delivered hframe hwf s
  rw [hexec, receiveFrame_decode hseq, hdecode, endTransaction_ok]

/-- A message that DECODE refuses ends the transaction with the error (R154). -/
theorem exec_wireMessage_of_error {fc : FrameControl} {len checksum : Byte} {payload : List Byte} {s : State}
    (hseq : s.seq = .decode) {e : DecodeError}
    (herror : decodeBuffer (fieldBytes fc len checksum payload) = .error e) :
    exec (wireMessage fc len checksum payload) s = .next (endTransaction (.error e) s) := by
  rw [exec_wireMessage, receiveFrame_decode hseq, herror]

/-- Settles O33: DECODE tests the checksum first and the length byte last. -/
theorem damagedMessagesAreErrors : Obligations.DamagedMessagesAreErrors := by
  intro fc len ck p s hnop hseq
  have h0 := mt FrameControl.ordinal_eq_zero.mp hnop
  refine ⟨fun hfcs => ?_, fun hfcs hlen => ?_⟩
  · exact exec_wireMessage_of_error hseq (decodeBuffer_checksumMismatch h0 hfcs)
  · apply exec_wireMessage_of_error (e := .payloadLengthMismatch) hseq
    rw [fieldBytes, decodeBuffer_of_ofByte_eq_some h0 hfcs (FrameControl.ofByte_ordinal fc), if_pos hlen]

/-- Settles O48: the fetch, and the turns that are the engine's. -/
theorem stepRunsDecoded : Obligations.StepRunsDecoded := by
  intro s i
  refine ⟨fun port rest hseq hhost hdecode => ?_, fun hseq hdecode => ?_, step_of_schedule_nil,
    fun rest => step_of_schedule_engine⟩
  · have hcommand : decodeCommand port = .ok i := hdecode
    simp [engineStep, fetch, hseq, hhost, hcommand, takeCommand]
  · have hmessage : decodeMessage (received s) = .ok i := by
      rw [decode] at hdecode
      split at hdecode
      next hmsg => rw [received, hmsg, Except.ok.inj hdecode]
      next => cases hdecode
    simp [engineStep, fetch, hseq, hmessage]

/-! ### Answers of the environment -/

section
variable {s : State}

theorem nextAnswer_cons {a : Bool} {rest : List Bool} (h : s.linkAnswers = a :: rest) : nextAnswer s = a := by
  simp [nextAnswer, h]

theorem dropAnswer_cons {a : Bool} {rest : List Bool} (h : s.linkAnswers = a :: rest) :
    dropAnswer s = { s with linkAnswers := rest } := by
  simp [dropAnswer, h]

theorem dropAnswer_nil (h : s.linkAnswers = []) : dropAnswer s = { s with draws := s.draws + 1 } := by
  simp [dropAnswer, h]

/-- The recorded answer is the one that is given, and it is used up (R41; log 4). -/
theorem answer_of_cons (s : State) :
    (∀ a rest, s.linkAnswers = a :: rest → nextAnswer s = a ∧ (dropAnswer s).linkAnswers = rest) ∧
      (s.linkAnswers = [] → (dropAnswer s).linkAnswers = []) :=
  ⟨fun _ _ h => ⟨nextAnswer_cons h, by rw [dropAnswer_cons h]⟩, fun h => by rw [dropAnswer_nil h, h]⟩

end

/-- Settles O22: XportOpen's two outcomes; the environment's answer is all that is used up. -/
theorem transportOpenStep : Obligations.TransportOpenStep := by
  intro s hseq
  obtain ⟨answers, draws, hdrop⟩ := dropAnswer_eq s
  obtain ⟨hcons, hnil⟩ := answer_of_cons s
  have hstep := (engineStep_openXopen hseq).trans (stepOpenXopen_eq s)
  rw [hdrop] at hcons hnil hstep
  cases hanswer : nextAnswer s with
  | true =>
    rw [hanswer] at hcons hstep
    exact ⟨true, _, hstep, hcons, hnil, id, rfl⟩
  | false =>
    rw [hanswer] at hcons hstep
    exact ⟨false, _, hstep, hcons, hnil, id, rfl⟩

/-- Settles O23: XportConfigure's two outcomes; the environment's answer is all that is used up. -/
theorem transportConfigStep : Obligations.TransportConfigStep := by
  intro s hseq hheld
  obtain ⟨answers, draws, hdrop⟩ := dropAnswer_eq s
  obtain ⟨hcons, hnil⟩ := answer_of_cons s
  have hstep := (engineStep_openXcfg hseq).trans (stepOpenXcfg_held hheld)
  rw [hdrop] at hcons hnil hstep
  cases hanswer : nextAnswer s with
  | true =>
    rw [hanswer] at hcons hstep
    exact ⟨true, _, hstep, hcons, hnil, rfl⟩
  | false =>
    rw [hanswer] at hcons hstep
    exact ⟨false, _, hstep, hcons, hnil, rfl⟩

end Sys2Proof.Machine
end

section
/-! The five sending commands past acceptance, for O20: each sequencer state's step, in a state and in the same state
under another of the five names. -/

namespace Sys2Proof.Machine

/-- The state with another command in `cmd_op`. -/
def withOp (op : CmdOp) (s : State) : State := { s with cmdOp := op }

section
variable {s : State} {op : CmdOp}

theorem ne_openLink_of_sends (h : op.sends = true) : op ≠ .openLink := by rintro rfl; cases h

theorem ne_pollReply_of_sends (h : op.sends = true) : op ≠ .pollReply := by rintro rfl; cases h

/-- A pause, and the next sequencer state (R133, R137, R167). -/
theorem delay_goto_withOp (t : Nat) (q : Seq) (s : State) :
    (delay t (withOp op s)).goto q = withOp op ((delay t s).goto q) := by
  unfold delay
  split <;> rfl

theorem dropAnswer_withOp (s : State) : dropAnswer (withOp op s) = withOp op (dropAnswer s) := by
  cases hanswers : s.linkAnswers <;> simp [dropAnswer, withOp, hanswers]

theorem nextAnswer_withOp (s : State) : nextAnswer (withOp op s) = nextAnswer s := rfl

/-! ### OPEN and CLOSE -/

theorem stepOpenXopen_withOp (s : State) :
    stepOpenXopen (withOp op s) = mapNext (withOp op) (stepOpenXopen s) := by
  rw [stepOpenXopen_eq, stepOpenXopen_eq, dropAnswer_withOp, nextAnswer_withOp]
  split <;> rfl

theorem stepOpenXcfg_withOp (s : State) : stepOpenXcfg (withOp op s) = mapNext (withOp op) (stepOpenXcfg s) := by
  simp only [stepOpenXcfg, xportConfigure, dropAnswer_withOp, nextAnswer_withOp]
  cases nextAnswer s with
  | true => rfl
  | false => cases hheld : (dropAnswer s).xportHeld <;> simp [xportClose, withOp, hheld] <;> rfl

theorem stepOpenFail_withOp (s : State) : stepOpenFail (withOp op s) = mapNext (withOp op) (stepOpenFail s) := by
  cases harmed : s.sigArmed with
  | true => rw [stepOpenFail_armed harmed, stepOpenFail_armed (s := withOp op s) harmed]; rfl
  | false => rw [stepOpenFail_not_armed harmed, stepOpenFail_not_armed (s := withOp op s) harmed]; rfl

theorem stepClose_withOp (s : State) : stepClose (withOp op s) = mapNext (withOp op) (stepClose s) := by
  cases hheld : s.xportHeld with
  | false => rw [stepClose_not_held hheld, stepClose_not_held (s := withOp op s) hheld]; rfl
  | true =>
    cases harmed : s.sigArmed with
    | true => rw [stepClose_held_armed hheld harmed, stepClose_held_armed (s := withOp op s) hheld harmed]; rfl
    | false => rw [stepClose_not_armed hheld harmed, stepClose_not_armed (s := withOp op s) hheld harmed]; rfl

/-! ### The transactions -/

theorem stepLookup_withOp (s : State) : stepLookup (withOp op s) = mapNext (withOp op) (stepLookup s) := by
  cases hrate : baudLookup s.cmdBaud <;> simp [stepLookup, withOp, hrate] <;> rfl

theorem afterWrite_withOp (s : State) : afterWrite (withOp op s) = withOp op (afterWrite s) := by
  cases hsync : s.cmdSync with
  | true => rw [afterWrite_sync hsync, afterWrite_sync (s := withOp op s) hsync]; rfl
  | false => rw [afterWrite_async hsync, afterWrite_async (s := withOp op s) hsync]; rfl

theorem stepTx_withOp (s : State) : stepTx (withOp op s) = mapNext (withOp op) (stepTx s) := by
  cases hheld : s.xportHeld with
  | false => rw [stepTx_not_held hheld, stepTx_not_held (s := withOp op s) hheld]; rfl
  | true =>
    obtain ⟨bytes, henc⟩ := commandFrame_encodes s
    rw [stepTx_held hheld henc, stepTx_held (s := withOp op s) hheld henc]
    exact congrArg _ (afterWrite_withOp ((fillTx bytes s).record (.xportWrite bytes)))

theorem pollAgain_withOp (s : State) : pollAgain (withOp op s) = withOp op (pollAgain s) :=
  delay_goto_withOp s.params.pollGap .poll s

/-- The wait asks for `cmd_op` only to tell POLL_REPLY and OPEN apart (R151). -/
theorem stepPoll_withOp (hsends : s.cmdOp.sends = true) (hop : op.sends = true) :
    stepPoll (withOp op s) = mapNext (withOp op) (stepPoll s) := by
  have hpoll := ne_pollReply_of_sends hsends
  have hpoll' : (withOp op s).cmdOp ≠ .pollReply := ne_pollReply_of_sends hop
  cases harmed : s.sigArmed with
  | false => rw [stepPoll_not_armed harmed, stepPoll_not_armed (s := withOp op s) harmed]; rfl
  | true =>
    cases hlatch : s.readyLatch with
    | true => rw [stepPoll_latched harmed hlatch, stepPoll_latched (s := withOp op s) harmed hlatch]; rfl
    | false =>
      cases hbound : s.params.syncTimeoutPolls with
      | none =>
        rw [stepPoll_unbounded harmed hlatch hpoll hbound,
          stepPoll_unbounded (s := withOp op s) harmed hlatch hpoll' hbound]
        exact congrArg _ (pollAgain_withOp { s with history := s.history ++ [.sigCheck false] })
      | some bound =>
        by_cases hbelow : s.pollCnt + 1 < bound
        · rw [stepPoll_below_bound harmed hlatch hpoll hbound hbelow,
            stepPoll_below_bound (s := withOp op s) harmed hlatch hpoll' hbound hbelow]
          exact congrArg _ (pollAgain_withOp
            { s with pollCnt := s.pollCnt + 1, history := s.history ++ [.sigCheck false] })
        · rw [stepPoll_at_bound harmed hlatch hpoll hbound hbelow,
            stepPoll_at_bound (s := withOp op s) harmed hlatch hpoll' hbound hbelow,
            raiseError_other (by exact ne_openLink_of_sends hop),
            raiseError_other (by exact ne_openLink_of_sends hsends)]
          rfl

theorem stepRxHdr_withOp (s : State) : stepRxHdr (withOp op s) = mapNext (withOp op) (stepRxHdr s) := by
  cases hheld : s.xportHeld with
  | true => rw [stepRxHdr_held hheld, stepRxHdr_held (s := withOp op s) hheld]; rfl
  | false => rw [stepRxHdr_not_held hheld, stepRxHdr_not_held (s := withOp op s) hheld]; rfl

theorem stepRxPay_withOp (s : State) : stepRxPay (withOp op s) = mapNext (withOp op) (stepRxPay s) := by
  cases hheld : s.xportHeld with
  | true => rw [stepRxPay_held hheld, stepRxPay_held (s := withOp op s) hheld]; rfl
  | false => rw [stepRxPay_not_held hheld, stepRxPay_not_held (s := withOp op s) hheld]; rfl

/-- The end of a transaction asks for `cmd_op` only to tell OPEN apart (R154). -/
theorem endTransaction_withOp (hsends : s.cmdOp.sends = true) (hop : op.sends = true)
    (r : Except DecodeError Frame) : endTransaction r (withOp op s) = withOp op (endTransaction r s) := by
  have hopen := ne_openLink_of_sends hsends
  have hopen' : (withOp op s).cmdOp ≠ .openLink := ne_openLink_of_sends hop
  cases r with
  | ok f => rw [endTransaction_ok, endTransaction_ok, if_neg hopen, if_neg hopen']; rfl
  | error e => rw [endTransaction_error, endTransaction_error, if_neg hopen, if_neg hopen']; rfl

end

/-- Settles O20: state by state of the sequencer; only S_POLL and S_DECODE read `cmd_op`, and not to tell sends apart. -/
theorem sendingCommandsRunAlike : Obligations.SendingCommandsRunAlike := by
  intro s op hsends hop hbusy
  have hseq' : (withOp op s).seq = s.seq := rfl
  change engineStep (withOp op s) = mapNext (withOp op) (engineStep s)
  cases hseq : s.seq with
  | idle => exact absurd hseq hbusy
  | openArm => rw [engineStep_openArm hseq, engineStep_openArm (hseq'.trans hseq)]; rfl
  | openRstLow => rw [engineStep_openRstLow hseq, engineStep_openRstLow (hseq'.trans hseq)]; rfl
  | openHold =>
    rw [engineStep_openHold hseq, engineStep_openHold (hseq'.trans hseq)]
    exact congrArg _ (delay_goto_withOp s.params.resetHold .openXopen s)
  | openXopen => rw [engineStep_openXopen hseq, engineStep_openXopen (hseq'.trans hseq), stepOpenXopen_withOp]
  | openXcfg => rw [engineStep_openXcfg hseq, engineStep_openXcfg (hseq'.trans hseq), stepOpenXcfg_withOp]
  | openRstHigh => rw [engineStep_openRstHigh hseq, engineStep_openRstHigh (hseq'.trans hseq)]; rfl
  | openBoot =>
    rw [engineStep_openBoot hseq, engineStep_openBoot (hseq'.trans hseq)]
    exact congrArg _ (delay_goto_withOp s.params.bootWait .openSwReset s)
  | openSwReset => rw [engineStep_openSwReset hseq, engineStep_openSwReset (hseq'.trans hseq)]; rfl
  | openFail => rw [engineStep_openFail hseq, engineStep_openFail (hseq'.trans hseq), stepOpenFail_withOp]
  | close => rw [engineStep_close hseq, engineStep_close (hseq'.trans hseq), stepClose_withOp]
  | lookup => rw [engineStep_lookup hseq, engineStep_lookup (hseq'.trans hseq), stepLookup_withOp]
  | tx => rw [engineStep_tx hseq, engineStep_tx (hseq'.trans hseq), stepTx_withOp]
  | poll => rw [engineStep_poll hseq, engineStep_poll (hseq'.trans hseq), stepPoll_withOp hsends hop]
  | rxHdr => rw [engineStep_rxHdr hseq, engineStep_rxHdr (hseq'.trans hseq), stepRxHdr_withOp]
  | rxPay => rw [engineStep_rxPay hseq, engineStep_rxPay (hseq'.trans hseq), stepRxPay_withOp]
  | decode =>
    rw [engineStep_decode hseq, engineStep_decode (hseq'.trans hseq)]
    exact congrArg _ (endTransaction_withOp hsends hop _)

end Sys2Proof.Machine
end

section
/-! Runs: several steps in a row, and whose turns they are. -/

namespace Sys2Proof.Machine

/-! ### Steps in a row -/

theorem run_succ_eq_next_iff {M : Host.Core} {k : Nat} {s u : M.State} :
    M.run (k + 1) s = .next u ↔ ∃ t, M.step s = .next t ∧ M.run k t = .next u := by
  rw [Host.Core.run]
  cases M.step s <;> simp

/-- `k` steps lead from `s` to `t`. -/
def Reaches (k : Nat) (s t : State) : Prop := core.run k s = .next t

theorem Reaches.refl (s : State) : Reaches 0 s s := rfl

theorem reaches_succ_iff {k : Nat} {s u : State} :
    Reaches (k + 1) s u ↔ ∃ t, step s = .next t ∧ Reaches k t u :=
  run_succ_eq_next_iff (M := core)

theorem Reaches.cons {k : Nat} {s t u : State} (h : step s = .next t) (hrest : Reaches k t u) : Reaches (k + 1) s u :=
  reaches_succ_iff.mpr ⟨t, h, hrest⟩

theorem Reaches.of_step {s t : State} (h : step s = .next t) : Reaches 1 s t := .cons h (.refl t)

theorem Reaches.trans {m n : Nat} {s t u : State} (h : Reaches m s t) (hrest : Reaches n t u) :
    Reaches (m + n) s u := by
  induction m generalizing s with
  | zero =>
    cases h
    rwa [Nat.zero_add]
  | succ m ih =>
    obtain ⟨v, hstep, hv⟩ := reaches_succ_iff.mp h
    rw [Nat.add_right_comm]
    exact .cons hstep (ih hv)

/-! ### The engine's turns -/

/-- The next `k` turns are the engine's: the schedule says so, or it is exhausted (log 2). -/
def EngineTurns (k : Nat) (s : State) : Prop := ∀ turn ∈ s.schedule.take k, turn = .engine

theorem engineTurns_of_schedule_nil {s : State} (h : s.schedule = []) (k : Nat) : EngineTurns k s := by
  simp [EngineTurns, h]

theorem engineTurns_of_replicate {s : State} {k : Nat} {rest : List Turn}
    (h : s.schedule = List.replicate k .engine ++ rest) : EngineTurns k s := by
  simp [EngineTurns, h]

theorem step_of_engineTurns {k : Nat} {s : State} (h : EngineTurns (k + 1) s) :
    step s = engineStep { s with schedule := s.schedule.tail } := by
  rcases hturn : s.schedule with _ | ⟨turn, rest⟩
  case nil =>
    have hsame : { s with schedule := [] } = s := by rw [← hturn]
    rw [step_of_schedule_nil hturn, List.tail_nil, hsame]
  case cons =>
    obtain rfl := h turn (by simp [hturn])
    rw [step_of_schedule_engine hturn, List.tail_cons]

theorem EngineTurns.tail {k : Nat} {s t : State} (h : EngineTurns (k + 1) s) (hsched : t.schedule = s.schedule.tail) :
    EngineTurns k t := by
  intro turn hturn
  apply h
  rw [hsched] at hturn
  cases hs : s.schedule with
  | nil => simp [hs] at hturn
  | cons _ _ => simp_all

theorem reaches_two_engineTurns {s t u : State} (hturns : EngineTurns 2 s)
    (hfirst : engineStep { s with schedule := s.schedule.tail } = .next t) (hsched : t.schedule = s.schedule.tail)
    (hsecond : engineStep { t with schedule := t.schedule.tail } = .next u) : Reaches 2 s u :=
  .cons ((step_of_engineTurns hturns).trans hfirst)
    (.of_step ((step_of_engineTurns (hturns.tail hsched)).trans hsecond))

/-! ### The environment's turns -/

/-- The companion emits bytes, in any number of parts, and then raises the edge on an armed signal. -/
theorem reaches_emit_edge {emitted : List (List Byte)} {s : State} (harmed : s.sigArmed = true)
    (hsched : s.schedule = emitted.map .emit ++ [.edge]) :
    Reaches (emitted.length + 1) s
      { s with schedule := [], readSide := s.readSide ++ emitted.flatten, readyLatch := true } := by
  induction emitted generalizing s with
  | nil =>
    apply Reaches.of_step
    rw [step_of_schedule_edge hsched]
    simp [harmed]
  | cons bytes rest ih =>
    refine .cons (step_of_schedule_emit hsched) ?_
    have hrest := ih (s := { s with schedule := rest.map .emit ++ [.edge], readSide := s.readSide ++ bytes }) harmed rfl
    simpa using hrest

end Sys2Proof.Machine
end

section
/-! The synchronous wait for O38 to O40: the calls its empty polls make, and where it is after any number of them. -/

namespace Sys2Proof.Machine

/-! ### The calls of empty polls -/

/-- What a pause adds to the history (log 17). -/
def pauseCalls (gap : Nat) : List Call := if gap = 0 then [] else [.delay gap]

/-- The calls of `k` empty polls: each checks once and pauses (R151, R167). -/
def emptyPollCalls (gap k : Nat) : List Call :=
  (List.replicate k (.sigCheck false :: pauseCalls gap)).flatten

theorem emptyPollCalls_succ (gap k : Nat) :
    emptyPollCalls gap (k + 1) = .sigCheck false :: (pauseCalls gap ++ emptyPollCalls gap k) := by
  simp [emptyPollCalls, List.replicate_succ]

theorem emptyPollCalls_append (gap j k : Nat) :
    emptyPollCalls gap j ++ emptyPollCalls gap k = emptyPollCalls gap (j + k) := by
  rw [emptyPollCalls, emptyPollCalls, ← List.flatten_append, List.replicate_append_replicate, emptyPollCalls]

theorem count_pauseCalls (gap : Nat) : (pauseCalls gap).count (.sigCheck false) = 0 := by
  by_cases hgap : gap = 0 <;> simp [pauseCalls, hgap]

theorem count_emptyPollCalls (gap k : Nat) : (emptyPollCalls gap k).count (.sigCheck false) = k := by
  induction k with
  | zero => rfl
  | succ k ih => simp [emptyPollCalls_succ, count_pauseCalls, ih]

theorem mem_emptyPollCalls {gap k : Nat} {c : Call} (h : c ∈ emptyPollCalls gap k) :
    c = .sigCheck false ∨ c = .delay gap := by
  obtain ⟨calls, hcalls, hc⟩ := List.mem_flatten.mp h
  obtain rfl := List.eq_of_mem_replicate hcalls
  by_cases hgap : gap = 0
  · exact .inl (by simpa [pauseCalls, hgap] using hc)
  · simpa [pauseCalls, hgap] using hc

theorem emptyPollCalls_gap_zero (k : Nat) : emptyPollCalls 0 k = List.replicate k (.sigCheck false) := by
  induction k with
  | zero => rfl
  | succ k ih => simp [emptyPollCalls_succ, pauseCalls, ih, List.replicate_succ]

theorem delay_eq_pauseCalls (t : Nat) (s : State) : delay t s = { s with history := s.history ++ pauseCalls t } := by
  by_cases ht : t = 0 <;> simp [delay, pauseCalls, ht, State.record]

/-! ### The wait -/

/-- Waiting in S_POLL for an edge that is not latched yet (R151). -/
structure State.Waiting (s : State) : Prop where
  seq : s.seq = .poll
  armed : s.sigArmed = true
  clear : s.readyLatch = false
  waits : s.cmdOp ≠ .pollReply

/-- How many of `k` empty polls are counted: all in a bounded wait, none in an unbounded one (R165, C3). -/
def Params.countedPolls (p : Params) (k : Nat) : Nat := if p.syncTimeoutPolls.isSome then k else 0

theorem Params.countedPolls_add (p : Params) (j k : Nat) :
    Params.countedPolls p j + Params.countedPolls p k = Params.countedPolls p (j + k) := by
  unfold Params.countedPolls
  split <;> rfl

theorem Params.countedPolls_of_bound {p : Params} {bound : Nat} (h : p.syncTimeoutPolls = some bound) (k : Nat) :
    Params.countedPolls p k = k := by
  simp [Params.countedPolls, h]

theorem engineStep_waiting {s : State} (h : s.Waiting)
    (hbelow : ∀ bound, s.params.syncTimeoutPolls = some bound → s.pollCnt + 1 < bound) :
    engineStep s = .next { s with
      pollCnt := s.pollCnt + Params.countedPolls s.params 1
      history := s.history ++ emptyPollCalls s.params.pollGap 1 } := by
  rw [engineStep_poll h.seq]
  cases hbound : s.params.syncTimeoutPolls with
  | none =>
    rw [stepPoll_unbounded h.armed h.clear h.waits hbound, pollAgain, delay_eq_pauseCalls, goto_eq_self (by exact h.seq)]
    simp [Params.countedPolls, hbound, emptyPollCalls]
  | some bound =>
    rw [stepPoll_below_bound h.armed h.clear h.waits hbound (hbelow bound hbound), pollAgain, delay_eq_pauseCalls,
      goto_eq_self (by exact h.seq)]
    simp [Params.countedPolls, hbound, emptyPollCalls]

/-- After `k` empty polls below the bound the wait is where it was. -/
theorem reaches_waiting {k : Nat} {s : State} (h : s.Waiting) (hturns : EngineTurns k s)
    (hbelow : ∀ bound, s.params.syncTimeoutPolls = some bound → s.pollCnt + k < bound) :
    Reaches k s { s with
      pollCnt := s.pollCnt + Params.countedPolls s.params k, schedule := s.schedule.drop k
      history := s.history ++ emptyPollCalls s.params.pollGap k } := by
  induction k generalizing s with
  | zero => simpa [Params.countedPolls, emptyPollCalls] using Reaches.refl s
  | succ k ih =>
    have hone : ∀ bound, s.params.syncTimeoutPolls = some bound → s.pollCnt + 1 < bound :=
      fun bound hbound => Nat.lt_of_le_of_lt (by omega) (hbelow bound hbound)
    have hrest := ih (s := { s with
        pollCnt := s.pollCnt + Params.countedPolls s.params 1, schedule := s.schedule.tail
        history := s.history ++ emptyPollCalls s.params.pollGap 1 })
      ⟨h.seq, h.armed, h.clear, h.waits⟩ (hturns.tail rfl) (fun bound hbound => by
        have hcounted := Params.countedPolls_of_bound hbound 1
        have := hbelow bound hbound
        simp only at hcounted ⊢
        omega)
    simp only [Nat.add_assoc, Params.countedPolls_add, List.append_assoc, emptyPollCalls_append, List.drop_tail,
      Nat.add_comm 1 k] at hrest
    exact .cons ((step_of_engineTurns hturns).trans
      (engineStep_waiting (s := { s with schedule := s.schedule.tail }) ⟨h.seq, h.armed, h.clear, h.waits⟩ hone)) hrest

theorem reaches_waiting_unbounded {k : Nat} {s : State} (h : s.Waiting) (hturns : EngineTurns k s)
    (hbound : s.params.syncTimeoutPolls = none) :
    Reaches k s { s with
      schedule := s.schedule.drop k, history := s.history ++ emptyPollCalls s.params.pollGap k } := by
  have hreach := reaches_waiting h hturns (by simp [hbound])
  have hcount : Params.countedPolls s.params k = 0 := by simp [Params.countedPolls, hbound]
  rwa [hcount, Nat.add_zero] at hreach

/-- Settles O38: the wait makes its empty polls, the edge is latched, and the next poll finds it. -/
theorem waitChecksUntilEdge : Obligations.WaitChecksUntilEdge := by
  intro n s hseq harmed hclear hop hbound hgap hsched
  have hwait := reaches_waiting_unbounded ⟨hseq, harmed, hclear, hop⟩ (engineTurns_of_replicate hsched) hbound
  have hrest : s.schedule.drop n = [.edge] := by simp [hsched]
  rw [hgap, emptyPollCalls_gap_zero, hrest] at hwait
  refine hwait.trans (.cons (step_of_schedule_edge rfl) (.of_step ?_))
  rw [step_of_schedule_nil rfl, engineStep_poll (by exact hseq), stepPoll_latched (by exact harmed) (by simp [harmed])]
  simp [State.record, hclear]

/-- Settles O39: with no bound every number of polls is below it, and the schedule leaves every turn to the engine. -/
theorem silentCompanionHangs : Obligations.SilentCompanionHangs := by
  intro k s hseq harmed hclear hop hbound hsched
  have hwait := reaches_waiting_unbounded ⟨hseq, harmed, hclear, hop⟩ (engineTurns_of_schedule_nil hsched k) hbound
  have hrest : s.schedule.drop k = s.schedule := by simp [hsched]
  rw [hrest] at hwait
  exact ⟨emptyPollCalls s.params.pollGap k, hwait, count_emptyPollCalls .., fun c => mem_emptyPollCalls⟩

/-- Settles O40: one poll fewer than the bound is below it; the next one is at the bound and raises the error. -/
theorem boundedWaitTimesOut : Obligations.BoundedWaitTimesOut := by
  intro bound s hseq harmed hclear hop hbound hpos hcount hsched
  obtain ⟨k, rfl⟩ := Nat.exists_eq_add_of_le' hpos
  have hwait := reaches_waiting ⟨hseq, harmed, hclear, hop⟩ (engineTurns_of_schedule_nil hsched k)
    (by simp [hbound, hcount])
  have hrest : s.schedule.drop k = s.schedule := by simp [hsched]
  rw [Params.countedPolls_of_bound hbound, hcount, Nat.zero_add, hrest] at hwait
  refine ⟨emptyPollCalls s.params.pollGap k ++ [.sigCheck false], ?_, ?_, hwait.trans (.of_step ?_)⟩
  · simp [count_emptyPollCalls]
  · intro c hc
    obtain hc | hc := List.mem_append.mp hc
    · exact mem_emptyPollCalls hc
    · exact .inl (List.mem_singleton.mp hc)
  · rw [step_of_schedule_nil (by exact hsched), engineStep_poll (by exact hseq),
      stepPoll_at_bound (by exact harmed) (by exact hclear) (by exact hop) (by exact hbound) (by simp)]
    simp only [List.append_assoc]
    rfl

end Sys2Proof.Machine
end

section
/-! A frame's way through the receive path, for O26, O34 and O37: S_POLL finds the edge, S_RX_HDR and S_RX_PAY read the
frame that waits, and S_DECODE ends the transaction with it. -/

namespace Sys2Proof.Machine

section
variable {s : State} {payload more : List Byte}

/-- The header that waits is read, and its length byte says what comes next (R152). -/
theorem engineStep_rxHdr_waiting {b0 len ck : Byte} (hseq : s.seq = .rxHdr) (hheld : s.xportHeld = true)
    (hwaiting : s.readSide = b0 :: len :: ck :: more) :
    engineStep s = .next { s with
      readSide := more, rxbuf := b0 :: len :: ck :: s.rxbuf.drop 3, rxLen := 3
      history := s.history ++ [.xportRead [b0, len, ck]], seq := if len = 0 then .decode else .rxPay } := by
  have hbytes : readBytes 3 s = [b0, len, ck] := by simp [readBytes_of_le, hwaiting]
  rw [engineStep_rxHdr hseq, stepRxHdr_held hheld, hbytes, hwaiting]
  simp

/-- The payload that waits is read behind the header (R153). -/
theorem engineStep_rxPay_waiting {b0 len ck : Byte} {tail : List Byte} (hseq : s.seq = .rxPay)
    (hheld : s.xportHeld = true) (hbuf : s.rxbuf = b0 :: len :: ck :: tail) (hlen : len.toNat = payload.length)
    (hwaiting : s.readSide = payload ++ more) :
    engineStep s = .next { s with
      readSide := more, rxbuf := b0 :: len :: ck :: (payload ++ tail.drop payload.length), rxLen := 3 + payload.length
      history := s.history ++ [.xportRead payload], seq := .decode } := by
  have hbyte : (lengthByte s).toNat = payload.length := by simp [lengthByte, hbuf, hlen]
  have hbytes : readBytes payload.length s = payload := by rw [readBytes_of_le (by simp [hwaiting]), hwaiting]; simp
  rw [engineStep_rxPay hseq, stepRxPay_held hheld, hbyte, hbytes, hbuf, hwaiting]
  simp [overwrite, Nat.add_comm 3]

/-- What was received is decoded (R154). -/
theorem engineStep_decode_received {bytes tail : List Byte} (hseq : s.seq = .decode) (hbuf : s.rxbuf = bytes ++ tail)
    (hlen : s.rxLen = bytes.length) : engineStep s = .next (endTransaction (decodeBuffer bytes) s) := by
  rw [engineStep_decode hseq, received, hbuf, hlen, List.take_left]

theorem Reaches.engine {k : Nat} {t u : State} (hsched : s.schedule = []) (h : engineStep s = .next t)
    (hrest : Reaches k t u) : Reaches (k + 1) s u :=
  .cons ((step_of_schedule_nil hsched).trans h) hrest

/-- An edge that is latched is followed by the read of a header (R151, R152). -/
theorem reaches_header {b0 len ck : Byte} (hseq : s.seq = .poll) (harmed : s.sigArmed = true)
    (hheld : s.xportHeld = true) (hlatch : s.readyLatch = true) (hsched : s.schedule = [])
    (hwaiting : s.readSide = b0 :: len :: ck :: more) :
    Reaches 2 s { s with
      readyLatch := false, readSide := more, rxbuf := b0 :: len :: ck :: s.rxbuf.drop 3, rxLen := 3
      history := s.history ++ [.sigCheck true] ++ [.xportRead [b0, len, ck]]
      seq := if len = 0 then .decode else .rxPay } := by
  have hpoll := (engineStep_poll hseq).trans (stepPoll_latched harmed hlatch)
  exact .engine hsched hpoll (.engine hsched (engineStep_rxHdr_waiting rfl hheld hwaiting) (.refl _))

/-- The payload is read behind its header (R153). -/
theorem reaches_payload {b0 len ck : Byte} {tail : List Byte} (hseq : s.seq = .rxPay) (hheld : s.xportHeld = true)
    (hsched : s.schedule = []) (hbuf : s.rxbuf = b0 :: len :: ck :: tail) (hlen : len.toNat = payload.length)
    (hwaiting : s.readSide = payload ++ more) :
    Reaches 1 s { s with
      readSide := more, rxbuf := b0 :: len :: ck :: (payload ++ tail.drop payload.length), rxLen := 3 + payload.length
      history := s.history ++ [.xportRead payload], seq := .decode } :=
  .engine hsched (engineStep_rxPay_waiting hseq hheld hbuf hlen hwaiting) (.refl _)

/-- What was received is decoded and ends the transaction (R154). -/
theorem reaches_decoded {bytes tail : List Byte} (hseq : s.seq = .decode) (hsched : s.schedule = [])
    (hbuf : s.rxbuf = bytes ++ tail) (hlen : s.rxLen = bytes.length) :
    Reaches 1 s (endTransaction (decodeBuffer bytes) s) :=
  .engine hsched (engineStep_decode_received hseq hbuf hlen) (.refl _)

end

/-- The frame a caller gets: a NOP comes back empty (R99, C1). -/
def replyFrame (f : Frame) : Frame := if f.fc = .nop then { fc := .nop, payload := [] } else f

/-- How many engine steps the receive path takes from S_POLL to the end of the transaction (R151 to R154). -/
def receivePathLength (f : Frame) : Nat := if f.payload = [] then 3 else 4

/-- The reads that take a frame from the read side (R152, R153). -/
def frameReads (f : Frame) (bytes : List Byte) : List Call :=
  .xportRead (bytes.take 3) :: if f.payload = [] then [] else [.xportRead f.payload]

/-- An edge that is latched and a frame that waits: the transaction ends with the frame, and exactly its bytes are
consumed. -/
theorem reaches_received {k : Nat} {r s : State} {f : Frame} {bytes more : List Byte} (hbefore : Reaches k r s)
    (hseq : s.seq = .poll) (harmed : s.sigArmed = true) (hheld : s.xportHeld = true) (hlatch : s.readyLatch = true)
    (hsched : s.schedule = []) (henc : encodeFrame f = some bytes) (hwaiting : s.readSide = bytes ++ more) :
    ∃ rxbuf rxLen, Reaches (k + receivePathLength f) r (endTransaction (.ok (replyFrame f)) { s with
      readyLatch := false, readSide := more, rxbuf := rxbuf, rxLen := rxLen, seq := .decode
      history := s.history ++ .sigCheck true :: frameReads f bytes }) := by
  have hdecode : decodeBuffer bytes = .ok (replyFrame f) := decodeBuffer_of_encodeFrame henc
  obtain ⟨hfits, ck, rfl, -⟩ := fields_of_encodeFrame henc
  have hlen := toNat_ofNat_length hfits
  have hheader := reaches_header hseq harmed hheld hlatch hsched hwaiting
  rw [receivePathLength, frameReads]
  by_cases hempty : f.payload = []
  · have hzero : BitVec.ofNat 8 f.payload.length = 0 := by rw [hempty]; rfl
    rw [if_pos hzero] at hheader
    have hend := hheader.trans (reaches_decoded (tail := s.rxbuf.drop 3)
      (bytes := f.fc.ordinal :: BitVec.ofNat 8 f.payload.length :: ck :: f.payload) rfl hsched (by simp [hempty])
      (by simp [hempty]))
    rw [hdecode] at hend
    exact ⟨_, _, hbefore.trans (by simpa [hempty] using hend)⟩
  · have hmore : BitVec.ofNat 8 f.payload.length ≠ 0 := by
      intro hzero
      rw [hzero] at hlen
      exact hempty (List.length_eq_zero_iff.mp hlen.symm)
    rw [if_neg hmore] at hheader
    have hend := (hheader.trans (reaches_payload rfl hheld hsched rfl hlen rfl)).trans
      (reaches_decoded (bytes := f.fc.ordinal :: BitVec.ofNat 8 f.payload.length :: ck :: f.payload)
        (tail := (s.rxbuf.drop 3).drop f.payload.length) rfl hsched (by simp)
        (by simp only [List.length_cons]; omega))
    rw [hdecode] at hend
    exact ⟨_, _, hbefore.trans (by simpa [hempty] using hend)⟩

end Sys2Proof.Machine
end

section
/-! Commands on an open link, from the host's port to their result: O25, O34, O35, O36 and O37. -/

namespace Sys2Proof.Machine

section
variable {s : State} {port : CommandPort} {rest : List CommandPort}

theorem ready_iff : s.ready = true ↔
    s.seq = .idle ∧ s.life = .opened ∧ s.sigArmed = true ∧ s.xportHeld = true := by
  simp [State.ready, and_assoc]

/-- An idle engine runs the command at the port (R13). -/
theorem engineStep_command {i : Instr} (hseq : s.seq = .idle) (hhost : s.host = port :: rest)
    (hcommand : decodeCommand port = .ok i) : engineStep s = exec i { s with host := rest } := by
  have hdecode : decode (.host port) = .ok i := hcommand
  obtain ⟨hrun, -⟩ := stepRunsDecoded s i
  exact hrun port rest hseq hhost hdecode

/-! ### The commands at the port (R70) -/

theorem decodeCommand_openLink (hcode : port.code = 0) : decodeCommand port = .ok (.openLink port.link) := by
  rw [decodeCommand, hcode]
  rfl

theorem decodeCommand_close (hcode : port.code = 1) : decodeCommand port = .ok .close := by
  rw [decodeCommand, hcode]
  rfl

theorem decodeCommand_pollReply (hcode : port.code = 2) : decodeCommand port = .ok .pollReply := by
  rw [decodeCommand, hcode]
  rfl

theorem decodeCommand_sendMessage (hcode : port.code = 3) (hfits : port.payload.length ≤ payloadMax) :
    decodeCommand port = .ok (.sendMessage (.ofBits port.fc) port.payload port.sync) := by
  rw [decodeCommand, hcode]
  exact checkPayload_of_wellFormed (decide_eq_true hfits) _

/-! ### CLOSE and POLL_REPLY -/

/-- Settles O25: CLOSE is accepted, and S_CLOSE finds both resources held. -/
theorem closeCommandRuns : Obligations.CloseCommandRuns := by
  intro s port rest hready hsched hhost hcode
  obtain ⟨hseq, hopened, harmed, hheld⟩ := ready_iff.mp hready
  have haccept := (lifecycleCommandsAccepted { s with host := rest } port.link hseq).2 hopened
  have hrun := Reaches.engine hsched ((engineStep_command hseq hhost (decodeCommand_close hcode)).trans haccept)
    (.engine hsched ((engineStep_close rfl).trans (stepClose_held_armed hheld harmed)) (.refl _))
  rw [← hseq] at hrun
  exact hrun

/-- The acceptance of a POLL_REPLY on an open link (R13, R150). -/
theorem engineStep_accepts_pollReply (hready : s.ready = true) (hhost : s.host = port :: rest)
    (hcode : port.code = 2) :
    engineStep s = .next { s with
      host := rest, cmdOp := .pollReply, resKind := .pending, pollCnt := 0, seq := .poll } := by
  obtain ⟨hseq, hopened, -⟩ := ready_iff.mp hready
  obtain ⟨haccept, -⟩ := transactionCommandsAccepted { s with host := rest } hseq hopened
  exact (engineStep_command hseq hhost (decodeCommand_pollReply hcode)).trans haccept

/-- Settles O35: the one pass of S_POLL finds no edge. -/
theorem pollWithoutEdge : Obligations.PollWithoutEdge := by
  intro s port rest hready hsched hhost hcode hclear
  obtain ⟨hseq, -, harmed, -⟩ := ready_iff.mp hready
  have hpoll := (engineStep_poll rfl).trans (stepPoll_noReply (s := { s with
    host := rest, cmdOp := .pollReply, resKind := .pending, pollCnt := 0, seq := .poll }) harmed hclear rfl)
  have hrun := Reaches.engine hsched (engineStep_accepts_pollReply hready hhost hcode) (.engine hsched hpoll (.refl _))
  rw [← hseq] at hrun
  exact hrun

end

/-- The reads of a history (R24). -/
theorem rxLog_append (history calls : List Call) : rxLog (history ++ calls) = rxLog history ++ rxLog calls := by
  induction history with
  | nil => rfl
  | cons c rest ih => cases c <;> simp [rxLog, ih]

/-- The writes of a history (R24). -/
theorem txLog_append (history calls : List Call) : txLog (history ++ calls) = txLog history ++ txLog calls := by
  induction history with
  | nil => rfl
  | cons c rest ih => cases c <;> simp [txLog, ih]

theorem length_replyFrame_le {f : Frame} (hfits : f.payload.length ≤ payloadMax) :
    (replyFrame f).payload.length ≤ payloadMax := by
  unfold replyFrame
  split
  · exact Nat.zero_le _
  · exact hfits

/-- A transaction that ends with a frame leaves it in the result registers, but in an OPEN (R17, R154). -/
theorem reaches_reply {k : Nat} {s u : State} {g : Frame} (hrun : Reaches k s (endTransaction (.ok g) u))
    (hop : u.cmdOp ≠ .openLink) (hfits : g.payload.length ≤ payloadMax) :
    ∃ t, Reaches k s t ∧ t.seq = .idle ∧ t.resKind = .reply ∧ t.resFc = g.fc ∧ t.resLen.toNat = g.payload.length ∧
      t.resPayload.take g.payload.length = g.payload ∧ t.outstanding = false ∧ t.readSide = u.readSide ∧
      t.readyLatch = u.readyLatch ∧ t.life = u.life ∧ t.history = u.history ∧ t.overlapped = u.overlapped := by
  rw [endTransaction_ok, if_neg hop] at hrun
  exact ⟨_, hrun, rfl, rfl, rfl, toNat_ofNat_length hfits, List.take_left, rfl, rfl, rfl, rfl, rfl, rfl⟩

/-- Settles O34: the pass of S_POLL finds the edge, and the frame that waits is read and delivered. -/
theorem pollReplyReturnsFrame : Obligations.PollReplyReturnsFrame := by
  intro s port rest f bytes more hready hsched hhost hcode hlatch hrx henc hwaiting
  obtain ⟨hseq, hopened, harmed, hheld⟩ := ready_iff.mp hready
  obtain ⟨rxbuf, rxLen, hreceive⟩ := reaches_received
    (Reaches.engine hsched (engineStep_accepts_pollReply hready hhost hcode) (.refl _)) rfl harmed hheld hlatch hsched
    henc hwaiting
  obtain ⟨t, hrun, hidle, hkind, hfc, hlen, hpayload, hout, hside, hclear, hlife, hhistory, -⟩ :=
    reaches_reply hreceive (by simp) (length_replyFrame_le (fields_of_encodeFrame henc).1)
  have hsteps : 0 + 1 + receivePathLength f = if f.payload = [] then 4 else 5 := by
    unfold receivePathLength
    split <;> rfl
  refine ⟨t, replyFrame f, hsteps ▸ hrun, rfl, hidle, hkind, hfc, hlen, hpayload, hside, hclear, hout,
    hlife.trans hopened, ?_⟩
  rw [hhistory, rxLog_append, frameReads]
  split <;> rfl

/-! ### SEND_MESSAGE -/

/-- S_TX on a held transport: the write, and what `cmd_sync` decides (R155). What the transmit buffer and
the poll counter hold is left open. -/
theorem engineStep_tx_sends {s : State} (hseq : s.seq = .tx) (hheld : s.xportHeld = true) :
    ∃ sent txbuf txLen count, encodeFrame (commandFrame s) = some sent ∧
      engineStep s = .next { s with
        txbuf := txbuf, txLen := txLen, outstanding := true, history := s.history ++ [.xportWrite sent]
        pollCnt := count, resKind := if s.cmdSync then s.resKind else .ok
        seq := if s.cmdSync then .poll else .idle } := by
  obtain ⟨sent, henc, hstep⟩ := transmitStep s hseq hheld
  refine ⟨sent, sent ++ s.txbuf.drop sent.length, sent.length, if s.cmdSync then 0 else s.pollCnt, henc, hstep.trans ?_⟩
  cases hsync : s.cmdSync <;> rfl

/-- SEND_MESSAGE on an open link is accepted and its frame written (R155, R156). What the operand registers, the
transmit buffer and the poll counter hold afterwards is left open. -/
theorem reaches_sent {s : State} {port : CommandPort} {rest : List CommandPort} (hready : s.ready = true)
    (hturns : EngineTurns 2 s) (hhost : s.host = port :: rest) (hcode : port.code = 3)
    (hfits : port.payload.length ≤ payloadMax) :
    ∃ sent len payload txbuf txLen count,
      encodeFrame { fc := .ofBits port.fc, payload := port.payload } = some sent ∧
      Reaches 2 s { s with
        host := rest, schedule := s.schedule.tail.tail, cmdOp := .sendMessage, cmdFc := .ofBits port.fc, cmdLen := len
        cmdPayload := payload, cmdSync := port.sync, overlapped := s.overlapped || s.outstanding
        txbuf := txbuf, txLen := txLen, outstanding := true, history := s.history ++ [.xportWrite sent]
        pollCnt := count, resKind := if port.sync then .pending else .ok
        seq := if port.sync then .poll else .idle } := by
  obtain ⟨hseq, hopened, -, hheld⟩ := ready_iff.mp hready
  obtain ⟨-, hmessage, -⟩ :=
    transactionCommandsAccepted { s with schedule := s.schedule.tail, host := rest } hseq hopened
  have haccept := (engineStep_command (s := { s with schedule := s.schedule.tail }) hseq hhost
    (decodeCommand_sendMessage hcode hfits)).trans (hmessage _ _ _ hfits)
  obtain ⟨sent, txbuf, txLen, count, henc, hsend⟩ := engineStep_tx_sends (s := { s with
    host := rest, schedule := s.schedule.tail.tail, cmdOp := .sendMessage, cmdFc := .ofBits port.fc
    cmdLen := BitVec.ofNat 8 port.payload.length
    cmdPayload := port.payload ++ s.cmdPayload.drop port.payload.length, cmdSync := port.sync
    overlapped := s.overlapped || s.outstanding, resKind := .pending, pollCnt := 0, seq := .tx }) rfl hheld
  rw [commandFrame, toNat_ofNat_length hfits, List.take_left] at henc
  exact ⟨sent, _, _, txbuf, txLen, count, henc, reaches_two_engineTurns hturns haccept rfl hsend⟩

/-- Settles O36: the frame is written and the command is over. -/
theorem asyncSendWritesFrame : Obligations.AsyncSendWritesFrame := by
  intro s port rest hready hsched hhost hcode hsync hfits
  obtain ⟨-, hopened, harmed, hheld⟩ := ready_iff.mp hready
  obtain ⟨sent, len, payload, txbuf, txLen, count, henc, hrun⟩ :=
    reaches_sent hready (engineTurns_of_schedule_nil hsched 2) hhost hcode hfits
  rw [hsync] at hrun
  exact ⟨sent, _, henc, hrun, rfl, rfl, rfl, rfl, rfl, rfl, hopened, harmed, hheld, rfl, rfl, rfl⟩

/-- Settles O37: the frame is written, the answer and its edge come, and the receive path delivers the answer. -/
theorem syncSendReturnsFirstFrame : Obligations.SyncSendReturnsFirstFrame := by
  intro s port rest f bytes hready hhost hcode hsync hfits hrx hempty henc hsched
  obtain ⟨-, hopened, harmed, hheld⟩ := ready_iff.mp hready
  obtain ⟨sent, len, payload, txbuf, txLen, count, hsent, hrun⟩ :=
    reaches_sent hready (engineTurns_of_replicate (k := 2) hsched) hhost hcode hfits
  rw [hsync, hsched, hempty] at hrun
  have harrive := hrun.trans (reaches_emit_edge (emitted := [bytes]) harmed rfl)
  obtain ⟨rxbuf, rxLen, hreceive⟩ := reaches_received (more := []) harrive rfl harmed hheld rfl rfl henc (by simp)
  obtain ⟨t, hreply, hidle, hkind, hfc, hlen, hpayload, hout, hside, -, -, hhistory, hmark⟩ :=
    reaches_reply hreceive (by simp) (length_replyFrame_le (fields_of_encodeFrame henc).1)
  have hsteps : 2 + ([bytes].length + 1) + receivePathLength f = if f.payload = [] then 7 else 8 := by
    unfold receivePathLength
    split <;> rfl
  refine ⟨sent, t, replyFrame f, hsent, hsteps ▸ hreply, rfl, hidle, hkind, hfc, hlen, hpayload, hout, hside, ?_, hmark⟩
  rw [hhistory, txLog_append, txLog_append, frameReads]
  split <;> simp [txLog]

end Sys2Proof.Machine
end

section
/-! OPEN from the host's port to an open link, for O26: what each engine step of the bring-up relies on and hands on,
whatever the environment emits and whenever its edge comes. -/

namespace Sys2Proof.Machine

/-- The sequencer state of OPEN from which `left` engine steps lead to S_POLL, once the signal is armed (R132 to R138). -/
def bringUpSeq (left : Nat) : Seq :=
  match left with
  | 0 => .poll
  | 1 => .tx
  | 2 => .openSwReset
  | 3 => .openBoot
  | 4 => .openRstHigh
  | 5 => .openXcfg
  | 6 => .openXopen
  | 7 => .openHold
  | _ => .openRstLow

/-- An OPEN with `left` engine steps to S_POLL whose transport opens and is configured: the answers that are left, and
the writes made beyond `log`. -/
structure BringUp (answers : List Bool) (log : List (List Byte)) (left : Nat) (s : State) : Prop where
  seq : s.seq = bringUpSeq left
  op : s.cmdOp = .openLink
  armed : s.sigArmed = true
  held : left ≤ 5 → s.xportHeld = true
  line : left ≤ 3 → s.rstLine = .high
  frame : left ≤ 1 → s.cmdFc = .reset ∧ s.cmdLen = 0 ∧ s.cmdSync = true
  answers : s.linkAnswers = if 6 ≤ left then true :: true :: answers else if left = 5 then true :: answers else answers
  written : txLog s.history = if left = 0 then log ++ [[0x01, 0x00, 0xFE]] else log

/-- What the engine leaves to the environment and the host while it brings the link up. -/
structure Undisturbed (s t : State) : Prop where
  readSide : t.readSide = s.readSide
  readyLatch : t.readyLatch = s.readyLatch
  host : t.host = s.host
  params : t.params = s.params

theorem Undisturbed.trans {s t u : State} (h : Undisturbed s t) (h' : Undisturbed t u) : Undisturbed s u :=
  ⟨h'.readSide.trans h.readSide, h'.readyLatch.trans h.readyLatch, h'.host.trans h.host, h'.params.trans h.params⟩

section
variable {answers : List Bool} {log : List (List Byte)} {left : Nat} {s : State}

/-- The environment's turns do not disturb the bring-up. -/
theorem BringUp.environment (h : BringUp answers log left s) (schedule : List Turn) (readSide : List Byte)
    (readyLatch : Bool) :
    BringUp answers log left { s with schedule := schedule, readSide := readSide, readyLatch := readyLatch } :=
  ⟨h.seq, h.op, h.armed, h.held, h.line, h.frame, h.answers, h.written⟩

theorem encodeFrame_softReset : encodeFrame { fc := .reset, payload := [] } = some [0x01, 0x00, 0xFE] := rfl

/-- The pauses write nothing. -/
theorem txLog_pause {history pause : List Call} {gap : Nat} (hpause : pause = [] ∨ pause = [.delay gap]) :
    txLog (history ++ pause) = txLog history := by
  obtain rfl | rfl := hpause <;> simp [txLog_append, txLog]

/-- Each engine step of the bring-up goes on to the next. -/
theorem BringUp.engineStep (h : BringUp answers log (left + 1) s) (hleft : left + 1 ≤ 8) :
    ∃ t, engineStep s = .next t ∧ t.schedule = s.schedule ∧ BringUp answers log left t ∧ Undisturbed s t := by
  obtain ⟨-, hlow, hhold, hhigh, hboot, hreset⟩ := bringUpSteps s
  obtain ⟨hseq, hop, harmed, hheld, hline, hframe, hanswers, hwritten⟩ := h
  match left with
  | 7 =>
    refine ⟨_, hlow hseq, rfl, ⟨rfl, hop, harmed, by simp, by simp, by simp, hanswers, ?_⟩, ⟨rfl, rfl, rfl, rfl⟩⟩
    simpa [txLog_append, txLog] using hwritten
  | 6 =>
    obtain ⟨pause, hpause, hstep⟩ := hhold hseq
    refine ⟨_, hstep, rfl, ⟨rfl, hop, harmed, by simp, by simp, by simp, hanswers, ?_⟩, ⟨rfl, rfl, rfl, rfl⟩⟩
    exact (txLog_pause hpause).trans hwritten
  | 5 =>
    have hstep := (engineStep_openXopen hseq).trans (stepOpenXopen_eq s)
    rw [nextAnswer_cons hanswers, dropAnswer_cons hanswers] at hstep
    refine ⟨_, hstep, rfl, ⟨rfl, hop, harmed, fun _ => rfl, by simp, by simp, rfl, ?_⟩, ⟨rfl, rfl, rfl, rfl⟩⟩
    simpa [txLog_append, txLog] using hwritten
  | 4 =>
    have hstep := (engineStep_openXcfg hseq).trans (stepOpenXcfg_held (hheld (by decide)))
    rw [nextAnswer_cons hanswers, dropAnswer_cons hanswers] at hstep
    refine ⟨_, hstep, rfl, ⟨rfl, hop, harmed, fun _ => hheld (by decide), by simp, by simp, rfl, ?_⟩,
      ⟨rfl, rfl, rfl, rfl⟩⟩
    simpa [txLog_append, txLog] using hwritten
  | 3 =>
    refine ⟨_, hhigh hseq, rfl, ⟨rfl, hop, harmed, fun _ => hheld (by decide), fun _ => rfl, by simp, hanswers, ?_⟩,
      ⟨rfl, rfl, rfl, rfl⟩⟩
    simpa [txLog_append, txLog] using hwritten
  | 2 =>
    obtain ⟨pause, hpause, hstep⟩ := hboot hseq
    refine ⟨_, hstep, rfl, ⟨rfl, hop, harmed, fun _ => hheld (by decide), fun _ => hline (by decide), by simp,
      hanswers, ?_⟩, ⟨rfl, rfl, rfl, rfl⟩⟩
    exact (txLog_pause hpause).trans hwritten
  | 1 =>
    exact ⟨_, hreset hseq, rfl, ⟨rfl, hop, harmed, fun _ => hheld (by decide), fun _ => hline (by decide),
      fun _ => ⟨rfl, rfl, rfl⟩, hanswers, hwritten⟩, ⟨rfl, rfl, rfl, rfl⟩⟩
  | 0 =>
    obtain ⟨hfc, hlen, hsync⟩ := hframe (by decide)
    obtain ⟨sent, txbuf, txLen, count, henc, hstep⟩ := engineStep_tx_sends hseq (hheld (by decide))
    have hcommand : commandFrame s = { fc := .reset, payload := [] } := by simp [commandFrame, hfc, hlen]
    obtain rfl : [0x01, 0x00, 0xFE] = sent := Option.some.inj (encodeFrame_softReset.symm.trans (hcommand ▸ henc))
    rw [hsync] at hstep
    refine ⟨_, hstep, rfl, ⟨rfl, hop, harmed, fun _ => hheld (by decide), fun _ => hline (by decide),
      fun _ => ⟨hfc, hlen, rfl⟩, hanswers, ?_⟩, ⟨rfl, rfl, rfl, rfl⟩⟩
    rw [txLog_append, hwritten]
    rfl

/-- Empty polls write nothing. -/
theorem txLog_emptyPollCalls (gap k : Nat) : txLog (emptyPollCalls gap k) = [] := by
  induction k with
  | zero => rfl
  | succ k ih => by_cases hgap : gap = 0 <;> simp_all [emptyPollCalls_succ, pauseCalls, txLog]

/-- At S_POLL an unbounded wait without an edge stays (R162). -/
theorem BringUp.engineStep_poll (h : BringUp answers log 0 s) (hclear : s.readyLatch = false)
    (hbound : s.params.syncTimeoutPolls = none) :
    ∃ t, Machine.engineStep s = .next t ∧ t.schedule = s.schedule ∧ BringUp answers log 0 t ∧ Undisturbed s t := by
  have hwaits : s.cmdOp ≠ .pollReply := by simp [h.op]
  refine ⟨_, engineStep_waiting ⟨h.seq, h.armed, hclear, hwaits⟩ (by simp [hbound]), rfl, ⟨h.seq, h.op, h.armed, h.held,
    h.line, h.frame, h.answers, ?_⟩, ⟨rfl, rfl, rfl, rfl⟩⟩
  rw [txLog_append, txLog_emptyPollCalls, List.append_nil, h.written]

/-- The engine's turns of the bring-up and, without a bound and an edge, of the wait after it. -/
theorem BringUp.reaches {k : Nat} (h : BringUp answers log left s) (hleft : left ≤ 8) (hturns : EngineTurns k s)
    (hgo : k ≤ left ∨ (s.readyLatch = false ∧ s.params.syncTimeoutPolls = none)) :
    ∃ t, Reaches k s t ∧ t.schedule = s.schedule.drop k ∧ BringUp answers log (left - k) t ∧ Undisturbed s t := by
  induction k generalizing s left with
  | zero => exact ⟨s, .refl s, rfl, h, ⟨rfl, rfl, rfl, rfl⟩⟩
  | succ k ih =>
    have hnow := h.environment s.schedule.tail s.readSide s.readyLatch
    obtain ⟨u, hstep, hsched, hu, hsame⟩ : ∃ u, Machine.engineStep { s with schedule := s.schedule.tail } = .next u ∧
        u.schedule = s.schedule.tail ∧ BringUp answers log (left - 1) u ∧ Undisturbed s u := by
      cases left with
      | zero =>
        obtain ⟨hclear, hbound⟩ := hgo.resolve_left (Nat.not_succ_le_zero k)
        obtain ⟨u, hstep, hsched, hu, hsame⟩ := hnow.engineStep_poll hclear hbound
        exact ⟨u, hstep, hsched, hu, hsame.readSide, hsame.readyLatch, hsame.host, hsame.params⟩
      | succ left =>
        obtain ⟨u, hstep, hsched, hu, hsame⟩ := hnow.engineStep hleft
        exact ⟨u, hstep, hsched, hu, hsame.readSide, hsame.readyLatch, hsame.host, hsame.params⟩
    have hgo' : k ≤ left - 1 ∨ (u.readyLatch = false ∧ u.params.syncTimeoutPolls = none) := by
      rw [hsame.readyLatch, hsame.params]
      exact hgo.imp_left Nat.le_sub_one_of_lt
    obtain ⟨t, hreach, htsched, ht, hsame'⟩ := ih hu (by omega) (hturns.tail hsched) hgo'
    refine ⟨t, .cons ((step_of_engineTurns hturns).trans hstep) hreach, ?_, ?_, hsame.trans hsame'⟩
    · rw [htsched, hsched, List.drop_tail]
    · rwa [Nat.sub_sub, Nat.add_comm 1] at ht

end

/-- The first two engine turns of an OPEN: it is accepted, and the signal is armed (R13, R131). -/
theorem reaches_armed {s : State} {port : CommandPort} {rest : List CommandPort} {answers : List Bool}
    (hseq : s.seq = .idle) (hclosed : s.life = .closed) (hhost : s.host = port :: rest) (hcode : port.code = 0)
    (hanswers : s.linkAnswers = true :: true :: answers) (hturns : EngineTurns 2 s) :
    ∃ t, Reaches 2 s t ∧ BringUp answers (txLog s.history) 8 t ∧ t.schedule = s.schedule.drop 2 ∧
      t.readSide = s.readSide ∧ t.readyLatch = false ∧ t.host = rest ∧ t.params = s.params := by
  have haccept := (engineStep_command (s := { s with schedule := s.schedule.tail }) hseq hhost
    (decodeCommand_openLink hcode)).trans
    ((lifecycleCommandsAccepted { s with schedule := s.schedule.tail, host := rest } port.link hseq).1 hclosed)
  have harm := (bringUpSteps { s with
    host := rest, schedule := s.schedule.tail.tail, cmdOp := .openLink, cmdLink := port.link, resKind := .pending
    pollCnt := 0, seq := .openArm }).1 rfl
  refine ⟨_, reaches_two_engineTurns hturns haccept rfl harm, ⟨rfl, rfl, rfl, by simp, by simp, by simp, hanswers, ?_⟩,
    ?_, rfl, rfl, rfl, rfl⟩
  · simp [txLog_append, txLog]
  · simp [← List.drop_one]

theorem EngineTurns.mono {j k : Nat} {s : State} (h : EngineTurns k s) (hle : j ≤ k) : EngineTurns j s :=
  fun turn hturn => h turn (List.take_subset_take_left s.schedule hle hturn)

/-- Whenever the edge comes once the signal is armed, S_POLL is reached with the latch set and what the companion
emitted waiting. -/
theorem BringUp.reaches_latched {answers : List Bool} {log : List (List Byte)} {t : State} {m : Nat}
    {emitted : List (List Byte)} (h : BringUp answers log 8 t)
    (hsched : t.schedule = List.replicate m .engine ++ (emitted.map .emit ++ [.edge]))
    (hgo : m ≤ 8 ∨ (t.readyLatch = false ∧ t.params.syncTimeoutPolls = none)) :
    ∃ w, Reaches (m + (emitted.length + 1) + (8 - m)) t w ∧ w.schedule = [] ∧ BringUp answers log 0 w ∧
      w.readSide = t.readSide ++ emitted.flatten ∧ w.readyLatch = true ∧ w.host = t.host := by
  obtain ⟨u, hbefore, husched, hup, hsame⟩ := h.reaches (k := m) le_rfl (engineTurns_of_replicate hsched) hgo
  rw [hsched, List.drop_left' (List.length_replicate ..)] at husched
  have hedge := reaches_emit_edge hup.armed husched
  obtain ⟨w, hafter, hwsched, hwup, hwsame⟩ := (hup.environment [] (u.readSide ++ emitted.flatten) true).reaches
    (k := 8 - m) (Nat.sub_le 8 m) (engineTurns_of_schedule_nil rfl _) (.inl le_rfl)
  rw [Nat.sub_self] at hwup
  refine ⟨w, (hbefore.trans hedge).trans hafter, by simpa using hwsched, hwup, ?_, hwsame.readyLatch,
    hwsame.host.trans hsame.host⟩
  rw [← hsame.readSide]
  exact hwsame.readSide

/-- Settles O26: OPEN arms the signal, the bring-up reaches S_POLL around the turn of the edge, and the receive path
takes the frame that opens the link. -/
theorem openBringsLinkUp : Obligations.OpenBringsLinkUp := by
  intro s port rest answers f bytes more n emitted hseq hclosed _ hhost hcode hanswers hn hbound hsched henc hwaiting
  have hturns : EngineTurns n s := engineTurns_of_replicate (by rw [hsched, List.append_assoc])
  obtain ⟨t, harmed, htup, htsched, htside, htclear, hthost, htparams⟩ :=
    reaches_armed hseq hclosed hhost hcode hanswers (hturns.mono hn)
  rw [hsched, List.append_assoc, List.drop_append_of_le_length (by simpa using hn), List.drop_replicate] at htsched
  have hgo : n - 2 ≤ 8 ∨ (t.readyLatch = false ∧ t.params.syncTimeoutPolls = none) :=
    hbound.imp (by omega) fun hnone => ⟨htclear, htparams ▸ hnone⟩
  obtain ⟨w, hpoll, hwsched, hup, hwside, hwlatch, hwhost⟩ := htup.reaches_latched htsched hgo
  rw [htside, hwaiting] at hwside
  obtain ⟨rxbuf, rxLen, hopen⟩ := reaches_received (harmed.trans hpoll) hup.seq hup.armed (hup.held (by decide)) hwlatch
    hwsched henc hwside
  rw [endTransaction_ok, if_pos hup.op] at hopen
  have hsteps : 2 + (n - 2 + (emitted.length + 1) + (8 - (n - 2))) + receivePathLength f =
      max n 10 + emitted.length + if f.payload = [] then 4 else 5 := by
    unfold receivePathLength
    split <;> omega
  rw [hsteps] at hopen
  refine ⟨_, hopen, rfl, rfl, hup.armed, hup.held (by decide), hup.line (by decide), rfl, rfl, rfl, rfl,
    hup.answers, hwhost.trans hthost, ?_⟩
  rw [txLog_append, hup.written, if_pos rfl, frameReads]
  split <;> simp [txLog]

end Sys2Proof.Machine
end
